-- ==== Sys2Proof/Word.lean ====
section
/-! DEFINITION. The one data width of the block: the unsigned byte (R41), and the channel number (R33). -/

namespace Sys2Proof

/-- All data is unsigned 8-bit (R7, R41). -/
abbrev Byte := BitVec 8

/-- A fader strip number, 0 to 7 (R33). -/
abbrev Channel := Fin 8

end Sys2Proof
end

