-- ==== Sys2Proof/Config.lean ====
section
/-! DEFINITION. The implementation parameters of R6. The spec leaves them OPEN, so State carries them in a field no
operation writes, and a statement about every state is one about every value of them. -/

namespace Sys2Proof

/-- KEY_INPUT (R6, R153): whether ENCODE_LED takes a KeyCode value or a raw key byte. -/
inductive KeyInput where
  | keyCode
  | rawByte
  deriving DecidableEq, Repr

/-- CONSUMER (R6, R181): how events reach the consumer; it changes neither their order nor their content. -/
inductive Consumer where
  | callback
  | queue
  | iterator
  deriving DecidableEq, Repr

/-- The parameters of R6. -/
structure Params where
  /-- MAX_CHUNK: the largest number of bytes one FEED may carry (R179). -/
  maxChunk : Nat
  /-- BUF_CAP: the capacity of the pending buffer, `none` for the unbounded list R6 allows (R180). -/
  bufCap : Option Nat
  keyInput : KeyInput
  consumer : Consumer
  deriving DecidableEq, Repr

/-- The values `State.reset` carries. KEY_INPUT is R6's default. DESIGN CHOICE (unsafe, log 1): MAX_CHUNK 64, an
unbounded buffer and the callback consumer, which R6 leaves OPEN. -/
def Params.atReset : Params :=
  { maxChunk := 64, bufCap := none, keyInput := .keyCode, consumer := .callback }

end Sys2Proof
end

