-- ==== Sys2Proof/Syntax.lean ====
section
/-! DEFINITION. The values that cross the block's interface (R30 to R34), the frame kinds of spec/opcode_table.json as
instructions (R2, R77), and the interface operations the host issues (R2, R76). -/

namespace Sys2Proof

/-- R30: the closed enumeration of nine key codes. -/
inductive KeyCode where
  | slider | pan | gang | solo | mute
  | clear | write | show | master
  deriving DecidableEq, Repr

/-- R31: a validated control event. -/
inductive ControlEvent where
  | sliderMove (channel : Channel) (value : Byte)
  | channelButton (channel : Channel) (key : KeyCode) (pressed : Bool)
  | globalButton (key : KeyCode) (pressed : Bool)
  deriving DecidableEq, Repr

/-- R200: the four reasons of a Malformed outcome. -/
inductive Reason where
  | invalidChannel | invalidFrameType | invalidFieldValue | unknownMessageClass
  deriving DecidableEq, Repr

/-- R205: the field an InvalidFieldValue names. -/
inductive FieldId where
  | marker | low | high | event
  deriving DecidableEq, Repr

/-- R23: the record of a Malformed outcome: the reason, the violated field, the offending bytes. -/
structure FaultRecord where
  reason : Reason
  field : Option FieldId
  bytes : List Byte
  deriving DecidableEq, Repr

/-- R34, R100: the three outcomes of `decode_one`. -/
inductive DecodeOutcome where
  | incomplete
  | parsed (event : ControlEvent) (consumed : Nat)
  | malformed (record : FaultRecord)
  deriving DecidableEq, Repr

/-- R206: why an encoder operation rejects its operands. -/
inductive RejectReason where
  | channelOutOfRange | valueOutOfRange | unknownKey
  deriving DecidableEq, Repr

/-- R140: what an encoder operation returns: a whole frame, or a rejection with no bytes. -/
inductive EncodeOutcome where
  | ok (frame : List Byte)
  | rejected (reason : RejectReason)
  deriving DecidableEq, Repr

/-- R32: an outbound command with valid operands. -/
inductive OutboundCommand where
  | setSlider (channel : Channel) (value : Byte)
  | setLed (channel : Channel) (key : KeyCode) (on : Bool)
  deriving DecidableEq, Repr

/-- R77: the two directions of a table row. -/
inductive Direction where
  | inbound
  | outbound
  deriving DecidableEq, Repr

/-- The frame kinds of spec/opcode_table.json, one constructor a row. Inbound operands are what a legal frame can
carry (R31). Outbound operands are the integers R141 and R142 take and check (R152, D17). -/
inductive Instr where
  /-- SLIDER (R105). -/
  | slider (channel : Channel) (value : Byte)
  /-- CHBTN_MUTE_PRESS (R107). -/
  | chbtnMutePress (channel : Channel)
  /-- CHBTN_MUTE_RELEASE (R107). -/
  | chbtnMuteRelease (channel : Channel)
  /-- CHBTN_SOLO_PRESS (R108). -/
  | chbtnSoloPress (channel : Channel)
  /-- CHBTN_SOLO_RELEASE (R108). -/
  | chbtnSoloRelease (channel : Channel)
  /-- CHBTN_GANG_PRESS (R109). -/
  | chbtnGangPress (channel : Channel)
  /-- CHBTN_GANG_RELEASE (R109). -/
  | chbtnGangRelease (channel : Channel)
  /-- CHBTN_PAN_PRESS (R110). -/
  | chbtnPanPress (channel : Channel)
  /-- CHBTN_PAN_RELEASE (R110). -/
  | chbtnPanRelease (channel : Channel)
  /-- CHBTN_SLIDER_PRESS (R111). -/
  | chbtnSliderPress (channel : Channel)
  /-- CHBTN_SLIDER_RELEASE (R111). -/
  | chbtnSliderRelease (channel : Channel)
  /-- GBTN_CLEAR_PRESS (R113). -/
  | gbtnClearPress
  /-- GBTN_CLEAR_RELEASE (R113). -/
  | gbtnClearRelease
  /-- GBTN_WRITE_PRESS (R114). -/
  | gbtnWritePress
  /-- GBTN_WRITE_RELEASE (R114). -/
  | gbtnWriteRelease
  /-- GBTN_SHOW_PRESS (R115). -/
  | gbtnShowPress
  /-- GBTN_SHOW_RELEASE (R115). -/
  | gbtnShowRelease
  /-- GBTN_MASTER_PRESS (R116). -/
  | gbtnMasterPress
  /-- GBTN_MASTER_RELEASE (R116). -/
  | gbtnMasterRelease
  /-- SETSLIDER (R141). -/
  | setslider (channel value : Int)
  /-- SETLED_MUTE_ON (R143). -/
  | setledMuteOn (channel : Int)
  /-- SETLED_MUTE_OFF (R143). -/
  | setledMuteOff (channel : Int)
  /-- SETLED_SOLO_ON (R144). -/
  | setledSoloOn (channel : Int)
  /-- SETLED_SOLO_OFF (R144). -/
  | setledSoloOff (channel : Int)
  /-- SETLED_GANG_ON (R145). -/
  | setledGangOn (channel : Int)
  /-- SETLED_GANG_OFF (R145). -/
  | setledGangOff (channel : Int)
  /-- SETLED_PAN_ON (R146). -/
  | setledPanOn (channel : Int)
  /-- SETLED_PAN_OFF (R146). -/
  | setledPanOff (channel : Int)
  /-- SETLED_SLIDER_ON (R147). -/
  | setledSliderOn (channel : Int)
  /-- SETLED_SLIDER_OFF (R147). -/
  | setledSliderOff (channel : Int)
  /-- SETLED_CLEAR_ON (R148). -/
  | setledClearOn (channel : Int)
  /-- SETLED_CLEAR_OFF (R148). -/
  | setledClearOff (channel : Int)
  /-- SETLED_WRITE_ON (R149). -/
  | setledWriteOn (channel : Int)
  /-- SETLED_WRITE_OFF (R149). -/
  | setledWriteOff (channel : Int)
  /-- SETLED_SHOW_ON (R150). -/
  | setledShowOn (channel : Int)
  /-- SETLED_SHOW_OFF (R150). -/
  | setledShowOff (channel : Int)
  /-- SETLED_MASTER_ON (R151). -/
  | setledMasterOn (channel : Int)
  /-- SETLED_MASTER_OFF (R151). -/
  | setledMasterOff (channel : Int)
  deriving DecidableEq, Repr

/-- R153: the key operand of ENCODE_LED, a KeyCode value or, under KEY_INPUT = raw byte, a byte. -/
inductive KeyOperand where
  | code (key : KeyCode)
  | raw (byte : Byte)
  deriving DecidableEq, Repr

/-- R2, R76: the interface operations. -/
inductive HostOp where
  /-- FEED (R170). -/
  | feed (chunk : List Byte)
  /-- CLEAR (R175). -/
  | clear
  /-- ENCODE_SLIDER (R141). -/
  | encodeSlider (channel value : Int)
  /-- ENCODE_LED (R142, R153). -/
  | encodeLed (channel : Int) (key : KeyOperand) (on : Bool)
  deriving DecidableEq, Repr

/-- R77: which way a frame kind travels. -/
def Instr.direction : Instr → Direction
  | .slider _ _
  | .chbtnMutePress _ | .chbtnMuteRelease _
  | .chbtnSoloPress _ | .chbtnSoloRelease _
  | .chbtnGangPress _ | .chbtnGangRelease _
  | .chbtnPanPress _ | .chbtnPanRelease _
  | .chbtnSliderPress _ | .chbtnSliderRelease _
  | .gbtnClearPress | .gbtnClearRelease
  | .gbtnWritePress | .gbtnWriteRelease
  | .gbtnShowPress | .gbtnShowRelease
  | .gbtnMasterPress | .gbtnMasterRelease => .inbound
  | .setslider _ _
  | .setledMuteOn _ | .setledMuteOff _
  | .setledSoloOn _ | .setledSoloOff _
  | .setledGangOn _ | .setledGangOff _
  | .setledPanOn _ | .setledPanOff _
  | .setledSliderOn _ | .setledSliderOff _
  | .setledClearOn _ | .setledClearOff _
  | .setledWriteOn _ | .setledWriteOff _
  | .setledShowOn _ | .setledShowOff _
  | .setledMasterOn _ | .setledMasterOff _ => .outbound

end Sys2Proof
end

