-- ==== Sys2Proof/Machine/Operands.lean ====
section
/-! DEFINITION. The operand forms of the frames: status byte, key code, slider value, event byte (R61, R67 to R69), for
both directions. -/

namespace Sys2Proof

/-- R61, R103: the status bytes are `0xB0` to `0xB7`. -/
def statusOk (s : Byte) : Bool := decide (0xB0#8 ≤ s) && decide (s ≤ 0xB7#8)

/-- R61, R103: `channel = status - 0xb0`, the low three bits of a legal status byte. -/
def channelOf (s : Byte) : Channel := Fin.ofNat 8 (s - 0xB0#8).toNat

/-- R61, R70: the status byte of a channel, `0xB0 | channel`. -/
def statusOf (c : Channel) : Byte := 0xB0#8 ||| BitVec.ofNat 8 c.val

/-- R62, R104: the message class, `type_byte >> 4`. -/
def classOf (t : Byte) : Byte := t >>> 4

/-- R69: the byte of a key code. -/
def keyByte : KeyCode → Byte
  | .mute => 0x46#8
  | .solo => 0x47#8
  | .gang => 0x48#8
  | .pan => 0x49#8
  | .slider => 0x4A#8
  | .clear => 0x70#8
  | .write => 0x71#8
  | .show => 0x72#8
  | .master => 0x73#8

/-- R69, R106: the five channel-button key codes, by their byte. -/
def channelKeyOf (t : Byte) : Option KeyCode :=
  if t = 0x46#8 then some .mute
  else if t = 0x47#8 then some .solo
  else if t = 0x48#8 then some .gang
  else if t = 0x49#8 then some .pan
  else if t = 0x4A#8 then some .slider
  else none

/-- R69, R112: the four global-button key codes, by their byte. -/
def globalKeyOf (t : Byte) : Option KeyCode :=
  if t = 0x70#8 then some .clear
  else if t = 0x71#8 then some .write
  else if t = 0x72#8 then some .show
  else if t = 0x73#8 then some .master
  else none

/-- R30: `key_of(b)`, defined only for the nine key bytes. -/
def keyOf (t : Byte) : Option KeyCode := (channelKeyOf t).or (globalKeyOf t)

/-- R30: the first five keys are channel-button keys. -/
def isChannelKey : KeyCode → Bool
  | .slider | .pan | .gang | .solo | .mute => true
  | .clear | .write | .show | .master => false

/-- R67: `value = (high << 1) | (low >> 6)`. -/
def valueOf (high low : Byte) : Byte := (high <<< 1) ||| (low >>> 6)

/-- R67, R70: `high = value >> 1`. -/
def highOf (value : Byte) : Byte := value >>> 1

/-- R67, R70: `low = (value & 1) << 6`. -/
def lowOf (value : Byte) : Byte := (value &&& 1#8) <<< 6

/-- R64: the marker byte of a slider frame. -/
def markerByte : Byte := 0x27#8

/-- R64: the type byte of a slider frame. -/
def sliderType : Byte := 0x07#8

/-- R68: the two event sentinels; no other byte is a transition. -/
def pressedOf (e : Byte) : Option Bool :=
  if e = 0x00#8 then some false
  else if e = 0x7F#8 then some true
  else none

/-- R68: `0x7f if on else 0x00`. -/
def eventByte (on : Bool) : Byte := if on then 0x7F#8 else 0x00#8

/-- R141, R142: a channel operand is valid when `0 <= channel <= 7`. -/
def channelInRange (c : Int) : Bool := decide (0 ≤ c) && decide (c ≤ 7)

/-- R141: a value operand is valid when `0 <= value <= 255`. -/
def valueInRange (v : Int) : Bool := decide (0 ≤ v) && decide (v ≤ 255)

end Sys2Proof
end

