-- ==== Sys2Proof/WellFormed.lean ====
section
/-! DEFINITION. Which instructions have operands the spec calls valid. Inbound operands are in range by their type (R33);
outbound ones are integers with the preconditions of R141 and R142. -/

namespace Sys2Proof

/-- The channel and value an outbound instruction carries, as the preconditions of R141 and R142 test them. -/
def Instr.wf : Instr → Bool
  | .setslider c v => channelInRange c && valueInRange v
  | .setledMuteOn c | .setledMuteOff c
  | .setledSoloOn c | .setledSoloOff c
  | .setledGangOn c | .setledGangOff c
  | .setledPanOn c | .setledPanOff c
  | .setledSliderOn c | .setledSliderOff c
  | .setledClearOn c | .setledClearOff c
  | .setledWriteOn c | .setledWriteOff c
  | .setledShowOn c | .setledShowOff c
  | .setledMasterOn c | .setledMasterOff c => channelInRange c
  | .slider _ _
  | .chbtnMutePress _ | .chbtnMuteRelease _
  | .chbtnSoloPress _ | .chbtnSoloRelease _
  | .chbtnGangPress _ | .chbtnGangRelease _
  | .chbtnPanPress _ | .chbtnPanRelease _
  | .chbtnSliderPress _ | .chbtnSliderRelease _
  | .gbtnClearPress | .gbtnClearRelease
  | .gbtnWritePress | .gbtnWriteRelease
  | .gbtnShowPress | .gbtnShowRelease
  | .gbtnMasterPress | .gbtnMasterRelease => true

/-- An instruction whose operands meet the preconditions. -/
abbrev WellFormed (i : Instr) : Prop := i.wf = true

/-- R6: MAX_CHUNK is at least 1 and BUF_CAP, where there is one, at least `4 + MAX_CHUNK`. -/
def Params.wf (p : Params) : Bool :=
  decide (1 ≤ p.maxChunk) && (match p.bufCap with
    | none => true
    | some cap => decide (4 + p.maxChunk ≤ cap))

end Sys2Proof
end

