-- ==== Sys2Proof/Decode.lean ====
section
/-! DEFINITION. The frame decoder (R101), total on every byte list and rejecting by reason; the same algorithm as the
spec's `decode_one`, answering events; the opcode table (R77); and the encoder. -/

namespace Sys2Proof

/-- What the decoder finds at the front of the pending bytes: a frame kind with its operands, too few bytes, or a
malformed frame rejected by its reason, field and offending bytes (R34, R121). -/
inductive Decoded where
  | incomplete
  | frame (i : Instr)
  | malformed (record : FaultRecord)
  deriving DecidableEq, Repr

/-- R107 to R111: the frame kind of a channel-button key byte and transition. -/
def channelButtonOf (t : Byte) : Option (Channel → Bool → Instr) :=
  if t = 0x46#8 then some fun c p => if p then .chbtnMutePress c else .chbtnMuteRelease c
  else if t = 0x47#8 then some fun c p => if p then .chbtnSoloPress c else .chbtnSoloRelease c
  else if t = 0x48#8 then some fun c p => if p then .chbtnGangPress c else .chbtnGangRelease c
  else if t = 0x49#8 then some fun c p => if p then .chbtnPanPress c else .chbtnPanRelease c
  else if t = 0x4A#8 then some fun c p => if p then .chbtnSliderPress c else .chbtnSliderRelease c
  else none

/-- R113 to R116: the frame kind of a global-button key byte and transition. -/
def globalButtonOf (t : Byte) : Option (Bool → Instr) :=
  if t = 0x70#8 then some fun p => if p then .gbtnClearPress else .gbtnClearRelease
  else if t = 0x71#8 then some fun p => if p then .gbtnWritePress else .gbtnWriteRelease
  else if t = 0x72#8 then some fun p => if p then .gbtnShowPress else .gbtnShowRelease
  else if t = 0x73#8 then some fun p => if p then .gbtnMasterPress else .gbtnMasterRelease
  else none

/-- R105: the slider arm, for the bytes after a legal status byte `s` and a type byte `t` of class 0. -/
def decodeSlider (s t : Byte) (rest : List Byte) : Decoded :=
  if t ≠ sliderType then .malformed ⟨.invalidFrameType, none, [s, t]⟩
  else match rest with
    | high :: marker :: low :: _ =>
      if marker ≠ markerByte then
        .malformed ⟨.invalidFieldValue, some .marker, [s, t, high, marker, low]⟩
      else if low ≠ 0x00#8 ∧ low ≠ 0x40#8 then
        .malformed ⟨.invalidFieldValue, some .low, [s, t, high, marker, low]⟩
      else if 0x7F#8 < high then
        .malformed ⟨.invalidFieldValue, some .high, [s, t, high, marker, low]⟩
      else .frame (.slider (channelOf s) (valueOf high low))
    | _ => .incomplete

/-- R106: the channel-button arm, for a type byte of class 4. -/
def decodeChannelButton (s t : Byte) (rest : List Byte) : Decoded :=
  match channelButtonOf t with
  | none => .malformed ⟨.invalidFrameType, none, [s, t]⟩
  | some button =>
    match rest with
    | [] => .incomplete
    | e :: _ =>
      match pressedOf e with
      | none => .malformed ⟨.invalidFieldValue, some .event, [s, t, e]⟩
      | some p => .frame (button (channelOf s) p)

/-- R112: the global-button arm, for a type byte of class 7. The channel is tested before the key (R207). -/
def decodeGlobalButton (s t : Byte) (rest : List Byte) : Decoded :=
  if channelOf s ≠ 0 then .malformed ⟨.invalidChannel, none, [s, t]⟩
  else match globalButtonOf t with
    | none => .malformed ⟨.invalidFrameType, none, [s, t]⟩
    | some button =>
      match rest with
      | [] => .incomplete
      | e :: _ =>
        match pressedOf e with
        | none => .malformed ⟨.invalidFieldValue, some .event, [s, t, e]⟩
        | some p => .frame (button p)

/-- R101 to R104, R117: the decoder the machine runs, in the order of checks of R207. It answers the frame kind; the
event is the frame's own meaning (`exec`). -/
def decodeFrame : List Byte → Decoded
  | s :: t :: rest =>
    if statusOk s then
      if classOf t = 0x0#8 then decodeSlider s t rest
      else if classOf t = 0x4#8 then decodeChannelButton s t rest
      else if classOf t = 0x7#8 then decodeGlobalButton s t rest
      else .malformed ⟨.unknownMessageClass, none, [s, t]⟩
    else .malformed ⟨.invalidChannel, none, [s, t]⟩
  | _ => .incomplete

/-- R101, line by line: `decode_one`, with the lengths, indices and `take` of its pseudocode and the events of R31. It
is written apart from `decodeFrame`, so that the agreement of the two is a claim. -/
def decodeOne (b : List Byte) : DecodeOutcome :=
  let n := b.length
  let at_ (i : Nat) : Byte := b.getD i 0x00#8
  if n < 2 then .incomplete
  else
    let s := at_ 0
    let t := at_ 1
    if ¬ (0xB0#8 ≤ s ∧ s ≤ 0xB7#8) then .malformed ⟨.invalidChannel, none, b.take 2⟩
    else
      let ch := channelOf s
      if t >>> 4 = 0x0#8 then
        if t ≠ 0x07#8 then .malformed ⟨.invalidFrameType, none, b.take 2⟩
        else if n < 5 then .incomplete
        else
          let high := at_ 2
          let marker := at_ 3
          let low := at_ 4
          if marker ≠ 0x27#8 then .malformed ⟨.invalidFieldValue, some .marker, b.take 5⟩
          else if low ≠ 0x00#8 ∧ low ≠ 0x40#8 then
            .malformed ⟨.invalidFieldValue, some .low, b.take 5⟩
          else if high > 0x7F#8 then .malformed ⟨.invalidFieldValue, some .high, b.take 5⟩
          else .parsed (.sliderMove ch ((high <<< 1) ||| (low >>> 6))) 5
      else if t >>> 4 = 0x4#8 then
        match channelKeyOf t with
        | none => .malformed ⟨.invalidFrameType, none, b.take 2⟩
        | some key =>
          if n < 3 then .incomplete
          else
            let e := at_ 2
            if e ≠ 0x00#8 ∧ e ≠ 0x7F#8 then
              .malformed ⟨.invalidFieldValue, some .event, b.take 3⟩
            else .parsed (.channelButton ch key (decide (e = 0x7F#8))) 3
      else if t >>> 4 = 0x7#8 then
        if ch ≠ 0 then .malformed ⟨.invalidChannel, none, b.take 2⟩
        else match globalKeyOf t with
          | none => .malformed ⟨.invalidFrameType, none, b.take 2⟩
          | some key =>
            if n < 3 then .incomplete
            else
              let e := at_ 2
              if e ≠ 0x00#8 ∧ e ≠ 0x7F#8 then
                .malformed ⟨.invalidFieldValue, some .event, b.take 3⟩
              else .parsed (.globalButton key (decide (e = 0x7F#8))) 3
      else .malformed ⟨.unknownMessageClass, none, b.take 2⟩

/-- The set-LED frame kind of a key and a switch position (R143 to R151). -/
def ledInstr : KeyCode → Bool → Int → Instr
  | .mute, true, c => .setledMuteOn c
  | .mute, false, c => .setledMuteOff c
  | .solo, true, c => .setledSoloOn c
  | .solo, false, c => .setledSoloOff c
  | .gang, true, c => .setledGangOn c
  | .gang, false, c => .setledGangOff c
  | .pan, true, c => .setledPanOn c
  | .pan, false, c => .setledPanOff c
  | .slider, true, c => .setledSliderOn c
  | .slider, false, c => .setledSliderOff c
  | .clear, true, c => .setledClearOn c
  | .clear, false, c => .setledClearOff c
  | .write, true, c => .setledWriteOn c
  | .write, false, c => .setledWriteOff c
  | .show, true, c => .setledShowOn c
  | .show, false, c => .setledShowOff c
  | .master, true, c => .setledMasterOn c
  | .master, false, c => .setledMasterOff c

/-- R70, R71, R77: the command an outbound frame carries, read by the table's outbound rows. The block itself never
decodes its own output (R53): DESIGN CHOICE (safe, log 15). -/
def decodeCommand : List Byte → Option Instr
  | s :: t :: rest =>
    if statusOk s then
      if t = sliderType then
        match rest with
        | high :: marker :: low :: _ =>
          if marker = markerByte ∧ (low = 0x00#8 ∨ low = 0x40#8) ∧ high ≤ 0x7F#8 then
            some (.setslider ((channelOf s).val : Int) ((valueOf high low).toNat : Int))
          else none
        | _ => none
      else match keyOf t, rest with
        | some k, e :: _ => (pressedOf e).map fun on => ledInstr k on ((channelOf s).val : Int)
        | _, _ => none
    else none
  | _ => none

/-- The frame kind a byte list begins with, in one direction: the inbound decoder's, or the outbound rows' reading. -/
def decode : Direction → List Byte → Option Instr
  | .inbound, b =>
    match decodeFrame b with
    | .frame i => some i
    | .incomplete => none
    | .malformed _ => none
  | .outbound, b => decodeCommand b

/-- The event an inbound frame reports (the `event` column of the opcode table); an outbound frame reports none. -/
def Instr.event? : Instr → Option ControlEvent
  | .slider c v => some (.sliderMove c v)
  | .chbtnMutePress c => some (.channelButton c .mute true)
  | .chbtnMuteRelease c => some (.channelButton c .mute false)
  | .chbtnSoloPress c => some (.channelButton c .solo true)
  | .chbtnSoloRelease c => some (.channelButton c .solo false)
  | .chbtnGangPress c => some (.channelButton c .gang true)
  | .chbtnGangRelease c => some (.channelButton c .gang false)
  | .chbtnPanPress c => some (.channelButton c .pan true)
  | .chbtnPanRelease c => some (.channelButton c .pan false)
  | .chbtnSliderPress c => some (.channelButton c .slider true)
  | .chbtnSliderRelease c => some (.channelButton c .slider false)
  | .gbtnClearPress => some (.globalButton .clear true)
  | .gbtnClearRelease => some (.globalButton .clear false)
  | .gbtnWritePress => some (.globalButton .write true)
  | .gbtnWriteRelease => some (.globalButton .write false)
  | .gbtnShowPress => some (.globalButton .show true)
  | .gbtnShowRelease => some (.globalButton .show false)
  | .gbtnMasterPress => some (.globalButton .master true)
  | .gbtnMasterRelease => some (.globalButton .master false)
  | .setslider _ _
  | .setledMuteOn _ | .setledMuteOff _
  | .setledSoloOn _ | .setledSoloOff _
  | .setledGangOn _ | .setledGangOff _
  | .setledPanOn _ | .setledPanOff _
  | .setledSliderOn _ | .setledSliderOff _
  | .setledClearOn _ | .setledClearOff _
  | .setledWriteOn _ | .setledWriteOff _
  | .setledShowOn _ | .setledShowOff _
  | .setledMasterOn _ | .setledMasterOff _ => none

/-- R63, R119: a frame's length, 5 for the slider layouts and 3 for the others. -/
def Instr.length : Instr → Nat
  | .slider _ _ | .setslider _ _ => 5
  | .chbtnMutePress _ | .chbtnMuteRelease _
  | .chbtnSoloPress _ | .chbtnSoloRelease _
  | .chbtnGangPress _ | .chbtnGangRelease _
  | .chbtnPanPress _ | .chbtnPanRelease _
  | .chbtnSliderPress _ | .chbtnSliderRelease _
  | .gbtnClearPress | .gbtnClearRelease
  | .gbtnWritePress | .gbtnWriteRelease
  | .gbtnShowPress | .gbtnShowRelease
  | .gbtnMasterPress | .gbtnMasterRelease
  | .setledMuteOn _ | .setledMuteOff _
  | .setledSoloOn _ | .setledSoloOff _
  | .setledGangOn _ | .setledGangOff _
  | .setledPanOn _ | .setledPanOff _
  | .setledSliderOn _ | .setledSliderOff _
  | .setledClearOn _ | .setledClearOff _
  | .setledWriteOn _ | .setledWriteOff _
  | .setledShowOn _ | .setledShowOff _
  | .setledMasterOn _ | .setledMasterOff _ => 3

/-- R34, R119: the outcome of `decode_one` that a decoded frame stands for. -/
def Decoded.outcome : Decoded → DecodeOutcome
  | .incomplete => .incomplete
  | .frame i =>
    match i.event? with
    | some e => .parsed e i.length
    | none => .incomplete
  | .malformed r => .malformed r

/-- R64, R70: the slider layout. -/
def sliderBytes (status value : Byte) : List Byte :=
  [status, sliderType, highOf value, markerByte, lowOf value]

/-- R65, R66, R71: the button and LED layout. -/
def buttonBytes (status : Byte) (key : KeyCode) (on : Bool) : List Byte :=
  [status, keyByte key, eventByte on]

/-- The status byte of an integer channel operand (R70, R71). -/
def statusOfInt (c : Int) : Byte := 0xB0#8 ||| BitVec.ofInt 8 c

/-- The bytes of a well-formed instruction, in wire order (R42), from the layouts of R64 to R66, R70 and R71. -/
def encode : Instr → List Byte
  | .slider c v => sliderBytes (statusOf c) v
  | .chbtnMutePress c => buttonBytes (statusOf c) .mute true
  | .chbtnMuteRelease c => buttonBytes (statusOf c) .mute false
  | .chbtnSoloPress c => buttonBytes (statusOf c) .solo true
  | .chbtnSoloRelease c => buttonBytes (statusOf c) .solo false
  | .chbtnGangPress c => buttonBytes (statusOf c) .gang true
  | .chbtnGangRelease c => buttonBytes (statusOf c) .gang false
  | .chbtnPanPress c => buttonBytes (statusOf c) .pan true
  | .chbtnPanRelease c => buttonBytes (statusOf c) .pan false
  | .chbtnSliderPress c => buttonBytes (statusOf c) .slider true
  | .chbtnSliderRelease c => buttonBytes (statusOf c) .slider false
  | .gbtnClearPress => buttonBytes 0xB0#8 .clear true
  | .gbtnClearRelease => buttonBytes 0xB0#8 .clear false
  | .gbtnWritePress => buttonBytes 0xB0#8 .write true
  | .gbtnWriteRelease => buttonBytes 0xB0#8 .write false
  | .gbtnShowPress => buttonBytes 0xB0#8 .show true
  | .gbtnShowRelease => buttonBytes 0xB0#8 .show false
  | .gbtnMasterPress => buttonBytes 0xB0#8 .master true
  | .gbtnMasterRelease => buttonBytes 0xB0#8 .master false
  | .setslider c v => sliderBytes (statusOfInt c) (BitVec.ofInt 8 v)
  | .setledMuteOn c => buttonBytes (statusOfInt c) .mute true
  | .setledMuteOff c => buttonBytes (statusOfInt c) .mute false
  | .setledSoloOn c => buttonBytes (statusOfInt c) .solo true
  | .setledSoloOff c => buttonBytes (statusOfInt c) .solo false
  | .setledGangOn c => buttonBytes (statusOfInt c) .gang true
  | .setledGangOff c => buttonBytes (statusOfInt c) .gang false
  | .setledPanOn c => buttonBytes (statusOfInt c) .pan true
  | .setledPanOff c => buttonBytes (statusOfInt c) .pan false
  | .setledSliderOn c => buttonBytes (statusOfInt c) .slider true
  | .setledSliderOff c => buttonBytes (statusOfInt c) .slider false
  | .setledClearOn c => buttonBytes (statusOfInt c) .clear true
  | .setledClearOff c => buttonBytes (statusOfInt c) .clear false
  | .setledWriteOn c => buttonBytes (statusOfInt c) .write true
  | .setledWriteOff c => buttonBytes (statusOfInt c) .write false
  | .setledShowOn c => buttonBytes (statusOfInt c) .show true
  | .setledShowOff c => buttonBytes (statusOfInt c) .show false
  | .setledMasterOn c => buttonBytes (statusOfInt c) .master true
  | .setledMasterOff c => buttonBytes (statusOfInt c) .master false

/-- R77: `n` bytes of a word, byte 0 the most significant (DEDUCED, safe, log 9). -/
def wordBytes : Nat → Nat → List Byte
  | 0, _ => []
  | n + 1, w => BitVec.ofNat 8 (w >>> (8 * n)) :: wordBytes n w

/-- R77: one row of spec/opcode_table.json, with `match` and `mask` as the table writes them. -/
structure OpcodeRow where
  direction : Direction
  length : Nat
  pattern : Nat
  mask : Nat
  deriving DecidableEq, Repr

/-- Bytes agree with a pattern under a mask, byte by byte, for as many bytes as the pattern has. -/
def matchesUnder : List Byte → List Byte → List Byte → Bool
  | [], [], _ => true
  | m :: ms, p :: ps, x :: xs => (x &&& m == p) && matchesUnder ms ps xs
  | _, _, _ => false

/-- R77: a frame selects the row when `(f & mask) == match`. -/
def OpcodeRow.selects (r : OpcodeRow) (b : List Byte) : Bool :=
  matchesUnder (wordBytes r.length r.mask) (wordBytes r.length r.pattern) b

/-- The row of spec/opcode_table.json an instruction stands for, copied from the table. -/
def Instr.row : Instr → OpcodeRow
  | .slider _ _ => ⟨.inbound, 5, 0xB007002700, 0xF8FF80FFBF⟩
  | .chbtnMutePress _ => ⟨.inbound, 3, 0xB0467F, 0xF8FFFF⟩
  | .chbtnMuteRelease _ => ⟨.inbound, 3, 0xB04600, 0xF8FFFF⟩
  | .chbtnSoloPress _ => ⟨.inbound, 3, 0xB0477F, 0xF8FFFF⟩
  | .chbtnSoloRelease _ => ⟨.inbound, 3, 0xB04700, 0xF8FFFF⟩
  | .chbtnGangPress _ => ⟨.inbound, 3, 0xB0487F, 0xF8FFFF⟩
  | .chbtnGangRelease _ => ⟨.inbound, 3, 0xB04800, 0xF8FFFF⟩
  | .chbtnPanPress _ => ⟨.inbound, 3, 0xB0497F, 0xF8FFFF⟩
  | .chbtnPanRelease _ => ⟨.inbound, 3, 0xB04900, 0xF8FFFF⟩
  | .chbtnSliderPress _ => ⟨.inbound, 3, 0xB04A7F, 0xF8FFFF⟩
  | .chbtnSliderRelease _ => ⟨.inbound, 3, 0xB04A00, 0xF8FFFF⟩
  | .gbtnClearPress => ⟨.inbound, 3, 0xB0707F, 0xFFFFFF⟩
  | .gbtnClearRelease => ⟨.inbound, 3, 0xB07000, 0xFFFFFF⟩
  | .gbtnWritePress => ⟨.inbound, 3, 0xB0717F, 0xFFFFFF⟩
  | .gbtnWriteRelease => ⟨.inbound, 3, 0xB07100, 0xFFFFFF⟩
  | .gbtnShowPress => ⟨.inbound, 3, 0xB0727F, 0xFFFFFF⟩
  | .gbtnShowRelease => ⟨.inbound, 3, 0xB07200, 0xFFFFFF⟩
  | .gbtnMasterPress => ⟨.inbound, 3, 0xB0737F, 0xFFFFFF⟩
  | .gbtnMasterRelease => ⟨.inbound, 3, 0xB07300, 0xFFFFFF⟩
  | .setslider _ _ => ⟨.outbound, 5, 0xB007002700, 0xF8FF80FFBF⟩
  | .setledMuteOn _ => ⟨.outbound, 3, 0xB0467F, 0xF8FFFF⟩
  | .setledMuteOff _ => ⟨.outbound, 3, 0xB04600, 0xF8FFFF⟩
  | .setledSoloOn _ => ⟨.outbound, 3, 0xB0477F, 0xF8FFFF⟩
  | .setledSoloOff _ => ⟨.outbound, 3, 0xB04700, 0xF8FFFF⟩
  | .setledGangOn _ => ⟨.outbound, 3, 0xB0487F, 0xF8FFFF⟩
  | .setledGangOff _ => ⟨.outbound, 3, 0xB04800, 0xF8FFFF⟩
  | .setledPanOn _ => ⟨.outbound, 3, 0xB0497F, 0xF8FFFF⟩
  | .setledPanOff _ => ⟨.outbound, 3, 0xB04900, 0xF8FFFF⟩
  | .setledSliderOn _ => ⟨.outbound, 3, 0xB04A7F, 0xF8FFFF⟩
  | .setledSliderOff _ => ⟨.outbound, 3, 0xB04A00, 0xF8FFFF⟩
  | .setledClearOn _ => ⟨.outbound, 3, 0xB0707F, 0xF8FFFF⟩
  | .setledClearOff _ => ⟨.outbound, 3, 0xB07000, 0xF8FFFF⟩
  | .setledWriteOn _ => ⟨.outbound, 3, 0xB0717F, 0xF8FFFF⟩
  | .setledWriteOff _ => ⟨.outbound, 3, 0xB07100, 0xF8FFFF⟩
  | .setledShowOn _ => ⟨.outbound, 3, 0xB0727F, 0xF8FFFF⟩
  | .setledShowOff _ => ⟨.outbound, 3, 0xB07200, 0xF8FFFF⟩
  | .setledMasterOn _ => ⟨.outbound, 3, 0xB0737F, 0xF8FFFF⟩
  | .setledMasterOff _ => ⟨.outbound, 3, 0xB07300, 0xF8FFFF⟩

/-- The inbound rows of spec/opcode_table.json (R77, R78). -/
def inboundRows : List OpcodeRow :=
  [Instr.row (.slider 0 0)]
    ++ [Instr.row (.chbtnMutePress 0), Instr.row (.chbtnMuteRelease 0)]
    ++ [Instr.row (.chbtnSoloPress 0), Instr.row (.chbtnSoloRelease 0)]
    ++ [Instr.row (.chbtnGangPress 0), Instr.row (.chbtnGangRelease 0)]
    ++ [Instr.row (.chbtnPanPress 0), Instr.row (.chbtnPanRelease 0)]
    ++ [Instr.row (.chbtnSliderPress 0), Instr.row (.chbtnSliderRelease 0)]
    ++ [Instr.row .gbtnClearPress, Instr.row .gbtnClearRelease]
    ++ [Instr.row .gbtnWritePress, Instr.row .gbtnWriteRelease]
    ++ [Instr.row .gbtnShowPress, Instr.row .gbtnShowRelease]
    ++ [Instr.row .gbtnMasterPress, Instr.row .gbtnMasterRelease]

/-- The interface operation that carries an instruction: a FEED of an inbound frame's bytes, an ENCODE for an outbound
one (R2). -/
def Instr.hostOp : Instr → HostOp
  | .setslider c v => .encodeSlider c v
  | .setledMuteOn c => .encodeLed c (.code .mute) true
  | .setledMuteOff c => .encodeLed c (.code .mute) false
  | .setledSoloOn c => .encodeLed c (.code .solo) true
  | .setledSoloOff c => .encodeLed c (.code .solo) false
  | .setledGangOn c => .encodeLed c (.code .gang) true
  | .setledGangOff c => .encodeLed c (.code .gang) false
  | .setledPanOn c => .encodeLed c (.code .pan) true
  | .setledPanOff c => .encodeLed c (.code .pan) false
  | .setledSliderOn c => .encodeLed c (.code .slider) true
  | .setledSliderOff c => .encodeLed c (.code .slider) false
  | .setledClearOn c => .encodeLed c (.code .clear) true
  | .setledClearOff c => .encodeLed c (.code .clear) false
  | .setledWriteOn c => .encodeLed c (.code .write) true
  | .setledWriteOff c => .encodeLed c (.code .write) false
  | .setledShowOn c => .encodeLed c (.code .show) true
  | .setledShowOff c => .encodeLed c (.code .show) false
  | .setledMasterOn c => .encodeLed c (.code .master) true
  | .setledMasterOff c => .encodeLed c (.code .master) false
  | .slider c v => .feed (encode (.slider c v))
  | .chbtnMutePress c => .feed (encode (.chbtnMutePress c))
  | .chbtnMuteRelease c => .feed (encode (.chbtnMuteRelease c))
  | .chbtnSoloPress c => .feed (encode (.chbtnSoloPress c))
  | .chbtnSoloRelease c => .feed (encode (.chbtnSoloRelease c))
  | .chbtnGangPress c => .feed (encode (.chbtnGangPress c))
  | .chbtnGangRelease c => .feed (encode (.chbtnGangRelease c))
  | .chbtnPanPress c => .feed (encode (.chbtnPanPress c))
  | .chbtnPanRelease c => .feed (encode (.chbtnPanRelease c))
  | .chbtnSliderPress c => .feed (encode (.chbtnSliderPress c))
  | .chbtnSliderRelease c => .feed (encode (.chbtnSliderRelease c))
  | .gbtnClearPress => .feed (encode .gbtnClearPress)
  | .gbtnClearRelease => .feed (encode .gbtnClearRelease)
  | .gbtnWritePress => .feed (encode .gbtnWritePress)
  | .gbtnWriteRelease => .feed (encode .gbtnWriteRelease)
  | .gbtnShowPress => .feed (encode .gbtnShowPress)
  | .gbtnShowRelease => .feed (encode .gbtnShowRelease)
  | .gbtnMasterPress => .feed (encode .gbtnMasterPress)
  | .gbtnMasterRelease => .feed (encode .gbtnMasterRelease)

/-- R63: how many bytes the frame at the front of `b` takes, told from byte 1 (the function L of R118). -/
def frameLength (b : List Byte) : Nat := if classOf (b.getD 1 0x00#8) = 0x0#8 then 5 else 3

/-- The bytes of a table word of `nbits` bits, byte 0 most significant (R77), followed by zero bytes up to the length
R63 tells from byte 1. -/
def tableBytes (nbits w : Nat) : List Byte :=
  let b := wordBytes ((nbits + 7) / 8) w ++ [0x00#8, 0x00#8, 0x00#8, 0x00#8, 0x00#8]
  b.take (frameLength b)

/-- The instruction read from a table word. The inbound decoder reads it; a word it takes for no frame, but which an
outbound row selects (a global key on a channel other than 0), is that row's command. DESIGN CHOICE (safe, log 5): a
word carries no direction, and a word both an inbound and an outbound row select is read inbound. -/
def decodeTableWord (nbits w : Nat) : Option Instr :=
  (decode .inbound (tableBytes nbits w)).or (decode .outbound (tableBytes nbits w))

end Sys2Proof
end

