-- ==== Sys2Proof/Machine/State.lean ====
section
/-! DEFINITION. The state of the block (R20), its parameters (R6), and the record of what crosses its interface; the
reasons a step stops; the state at reset (R36). -/

namespace Sys2Proof.Machine

/-- Reasons a step stops with a fault. The spec's own faults are not here: a Malformed outcome is a next state with the
fault record set (R210), a rejection is a reply (R206). -/
inductive Fault where
  /-- Raised by the decode loop of FEED if it ran out of its step bound. R178 says the loop ends; this marks the bound
  and is never raised (a statement of its own). DESIGN CHOICE (safe, log 12). -/
  | decodeLoopUnfinished
  deriving DecidableEq, Repr

/-- Reasons the model has no meaning for what it is asked. -/
inductive Refusal where
  /-- Raised by `exec` for an instruction without a meaning. No arm raises it now. Safe. -/
  | notModelled (mnemonic : String)
  /-- Raised by FEED for a chunk longer than MAX_CHUNK, which "is not an operation of the block, and a model refuses
  it" (R179). Safe. -/
  | chunkTooLong
  /-- Raised by FEED when the pending bytes would exceed BUF_CAP: "a FEED that would exceed BUF_CAP is refused" (R180).
  It cannot happen at the BUF_CAP that R6 asks for. Safe. -/
  | bufferOverCapacity
  /-- Raised by ENCODE_LED for a raw key byte when KEY_INPUT is KeyCode, a form the block then does not take (R6,
  R153). DESIGN CHOICE (safe, log 8). -/
  | rawKeyNotTaken
  deriving DecidableEq, Repr

/-- The state. `buf` and `fault` are the whole state of the block (R20); `params` are its parameters, which nothing
writes (R13); `ops`, `events` and `replies` are the model's record of its interface. -/
structure State where
  /-- R21: bytes received in this session and not yet consumed, oldest first. -/
  buf : List Byte
  /-- R23: the sticky fault record. -/
  fault : Option FaultRecord
  /-- R6: the implementation parameters. -/
  params : Params
  /-- R12, R52: operations the host has issued and the block has not performed, oldest first. DESIGN CHOICE (safe,
  log 2). -/
  ops : List HostOp
  /-- R40, R52, R181: events delivered to the consumer, in order. DESIGN CHOICE (safe, log 3). -/
  events : List ControlEvent
  /-- R40, R140: outcomes the encoder returned, in order. DESIGN CHOICE (safe, log 3). -/
  replies : List EncodeOutcome
  deriving DecidableEq, Repr

/-- R36, R230: the block at power-on, which is the block after CLEAR. The parameters, and the empty interface record,
are the model's: DESIGN CHOICE (log 1 unsafe; log 2, 3 safe). -/
def State.reset : State :=
  { buf := [], fault := none, params := Params.atReset, ops := [], events := [], replies := [] }

end Sys2Proof.Machine
end

