-- ==== Sys2Proof/Machine/Ops.lean ====
section
/-! DEFINITION. The operations over the state that the meanings share: delivering a frame's event, entering and leaving a
fault, returning an encoder outcome, appending a chunk. -/

namespace Sys2Proof.Machine

/-- R170, Parsed arm: emit the event and drop the frame's bytes from the front of the buffer. In FAULTED mode the buffer
is frozen and no frame is accepted (R24, R174): DEDUCED (safe, log 4). -/
def acceptFrame (event : ControlEvent) (consumed : Nat) (s : State) : State :=
  match s.fault with
  | some _ => s
  | none => { s with buf := s.buf.drop consumed, events := s.events ++ [event] }

/-- R210, fault entry: the record is set; the buffer stays as the loop left it, the events already emitted stay
delivered, and nothing else is saved. -/
def enterFault (record : FaultRecord) (s : State) : State :=
  { s with fault := some record }

/-- R175, R211: the start of a session, and the only way out of a fault. -/
def clearSession (s : State) : State :=
  { s with buf := [], fault := none }

/-- R140: an encoder operation returns one outcome and touches no state of the block. -/
def reply (outcome : EncodeOutcome) (s : State) : State :=
  { s with replies := s.replies ++ [outcome] }

/-- R21: a chunk goes behind the pending bytes. -/
def appendChunk (chunk : List Byte) (s : State) : State :=
  { s with buf := s.buf ++ chunk }

/-- R180: the pending bytes and the chunk fit the buffer. -/
def fits (p : Params) (bytes : Nat) : Bool :=
  match p.bufCap with
  | none => true
  | some cap => decide (bytes ≤ cap)

end Sys2Proof.Machine
end

