-- ==== Sys2Proof/Machine/ChannelButtons.lean ====
section
/-! DEFINITION. The inbound channel-button frames (R106 to R111). -/

namespace Sys2Proof.Machine

/-- CHBTN_MUTE_PRESS (R107). -/
def execChbtnMutePress (channel : Channel) (s : State) : Host.Outcome State Fault Refusal :=
  .next (acceptFrame (.channelButton channel .mute true) 3 s)

/-- CHBTN_MUTE_RELEASE (R107). -/
def execChbtnMuteRelease (channel : Channel) (s : State) : Host.Outcome State Fault Refusal :=
  .next (acceptFrame (.channelButton channel .mute false) 3 s)

/-- CHBTN_SOLO_PRESS (R108). -/
def execChbtnSoloPress (channel : Channel) (s : State) : Host.Outcome State Fault Refusal :=
  .next (acceptFrame (.channelButton channel .solo true) 3 s)

/-- CHBTN_SOLO_RELEASE (R108). -/
def execChbtnSoloRelease (channel : Channel) (s : State) : Host.Outcome State Fault Refusal :=
  .next (acceptFrame (.channelButton channel .solo false) 3 s)

/-- CHBTN_GANG_PRESS (R109). -/
def execChbtnGangPress (channel : Channel) (s : State) : Host.Outcome State Fault Refusal :=
  .next (acceptFrame (.channelButton channel .gang true) 3 s)

/-- CHBTN_GANG_RELEASE (R109). -/
def execChbtnGangRelease (channel : Channel) (s : State) : Host.Outcome State Fault Refusal :=
  .next (acceptFrame (.channelButton channel .gang false) 3 s)

/-- CHBTN_PAN_PRESS (R110). -/
def execChbtnPanPress (channel : Channel) (s : State) : Host.Outcome State Fault Refusal :=
  .next (acceptFrame (.channelButton channel .pan true) 3 s)

/-- CHBTN_PAN_RELEASE (R110). -/
def execChbtnPanRelease (channel : Channel) (s : State) : Host.Outcome State Fault Refusal :=
  .next (acceptFrame (.channelButton channel .pan false) 3 s)

/-- CHBTN_SLIDER_PRESS (R111). -/
def execChbtnSliderPress (channel : Channel) (s : State) : Host.Outcome State Fault Refusal :=
  .next (acceptFrame (.channelButton channel .slider true) 3 s)

/-- CHBTN_SLIDER_RELEASE (R111). -/
def execChbtnSliderRelease (channel : Channel) (s : State) : Host.Outcome State Fault Refusal :=
  .next (acceptFrame (.channelButton channel .slider false) 3 s)

end Sys2Proof.Machine
end

