-- ==== Sys2Proof/Machine/GlobalButtons.lean ====
section
/-! DEFINITION. The inbound global-button frames (R112 to R116). -/

namespace Sys2Proof.Machine

/-- GBTN_CLEAR_PRESS (R113). -/
def execGbtnClearPress (s : State) : Host.Outcome State Fault Refusal :=
  .next (acceptFrame (.globalButton .clear true) 3 s)

/-- GBTN_CLEAR_RELEASE (R113). -/
def execGbtnClearRelease (s : State) : Host.Outcome State Fault Refusal :=
  .next (acceptFrame (.globalButton .clear false) 3 s)

/-- GBTN_WRITE_PRESS (R114). -/
def execGbtnWritePress (s : State) : Host.Outcome State Fault Refusal :=
  .next (acceptFrame (.globalButton .write true) 3 s)

/-- GBTN_WRITE_RELEASE (R114). -/
def execGbtnWriteRelease (s : State) : Host.Outcome State Fault Refusal :=
  .next (acceptFrame (.globalButton .write false) 3 s)

/-- GBTN_SHOW_PRESS (R115). -/
def execGbtnShowPress (s : State) : Host.Outcome State Fault Refusal :=
  .next (acceptFrame (.globalButton .show true) 3 s)

/-- GBTN_SHOW_RELEASE (R115). -/
def execGbtnShowRelease (s : State) : Host.Outcome State Fault Refusal :=
  .next (acceptFrame (.globalButton .show false) 3 s)

/-- GBTN_MASTER_PRESS (R116). -/
def execGbtnMasterPress (s : State) : Host.Outcome State Fault Refusal :=
  .next (acceptFrame (.globalButton .master true) 3 s)

/-- GBTN_MASTER_RELEASE (R116). -/
def execGbtnMasterRelease (s : State) : Host.Outcome State Fault Refusal :=
  .next (acceptFrame (.globalButton .master false) 3 s)

end Sys2Proof.Machine
end

