-- ==== Sys2Proof/Machine/Encoder.lean ====
section
/-! DEFINITION. The frame encoder's pure functions (R140 to R142, R153): from operands to a frame or a rejection. -/

namespace Sys2Proof.Machine

/-- R141: `encode_slider(channel, value)`, the channel checked before the value (R209). -/
def encodeSlider (channel value : Int) : EncodeOutcome :=
  if !channelInRange channel then .rejected .channelOutOfRange
  else if !valueInRange value then .rejected .valueOutOfRange
  else
    let v : Byte := BitVec.ofInt 8 value
    .ok [0xB0#8 ||| BitVec.ofInt 8 channel, 0x07#8, v >>> 1, 0x27#8, (v &&& 1#8) <<< 6]

/-- R142: `encode_led(channel, key, on)`. Key and channel are not checked against each other (R154). -/
def encodeLed (channel : Int) (key : KeyCode) (on : Bool) : EncodeOutcome :=
  if !channelInRange channel then .rejected .channelOutOfRange
  else .ok [0xB0#8 ||| BitVec.ofInt 8 channel, keyByte key, if on then 0x7F#8 else 0x00#8]

/-- R153, R209: what the raw form of ENCODE_LED rejects, the channel before the key; `none` where the operands are
those of a key code. -/
def rawKeyRejection (channel : Int) (byte : Byte) : Option RejectReason :=
  if !channelInRange channel then some .channelOutOfRange
  else if (keyOf byte).isNone then some .unknownKey
  else none

end Sys2Proof.Machine
end

