-- ==== Sys2Proof/Machine/SetLed.lean ====
section
/-! DEFINITION. The outbound set-LED frames, one per key and switch position (R142 to R151). -/

namespace Sys2Proof.Machine

/-- SETLED_MUTE_ON (R143). -/
def execSetledMuteOn (channel : Int) (s : State) : Host.Outcome State Fault Refusal :=
  .next (reply (encodeLed channel .mute true) s)

/-- SETLED_MUTE_OFF (R143). -/
def execSetledMuteOff (channel : Int) (s : State) : Host.Outcome State Fault Refusal :=
  .next (reply (encodeLed channel .mute false) s)

/-- SETLED_SOLO_ON (R144). -/
def execSetledSoloOn (channel : Int) (s : State) : Host.Outcome State Fault Refusal :=
  .next (reply (encodeLed channel .solo true) s)

/-- SETLED_SOLO_OFF (R144). -/
def execSetledSoloOff (channel : Int) (s : State) : Host.Outcome State Fault Refusal :=
  .next (reply (encodeLed channel .solo false) s)

/-- SETLED_GANG_ON (R145). -/
def execSetledGangOn (channel : Int) (s : State) : Host.Outcome State Fault Refusal :=
  .next (reply (encodeLed channel .gang true) s)

/-- SETLED_GANG_OFF (R145). -/
def execSetledGangOff (channel : Int) (s : State) : Host.Outcome State Fault Refusal :=
  .next (reply (encodeLed channel .gang false) s)

/-- SETLED_PAN_ON (R146). -/
def execSetledPanOn (channel : Int) (s : State) : Host.Outcome State Fault Refusal :=
  .next (reply (encodeLed channel .pan true) s)

/-- SETLED_PAN_OFF (R146). -/
def execSetledPanOff (channel : Int) (s : State) : Host.Outcome State Fault Refusal :=
  .next (reply (encodeLed channel .pan false) s)

/-- SETLED_SLIDER_ON (R147). -/
def execSetledSliderOn (channel : Int) (s : State) : Host.Outcome State Fault Refusal :=
  .next (reply (encodeLed channel .slider true) s)

/-- SETLED_SLIDER_OFF (R147). -/
def execSetledSliderOff (channel : Int) (s : State) : Host.Outcome State Fault Refusal :=
  .next (reply (encodeLed channel .slider false) s)

/-- SETLED_CLEAR_ON (R148). -/
def execSetledClearOn (channel : Int) (s : State) : Host.Outcome State Fault Refusal :=
  .next (reply (encodeLed channel .clear true) s)

/-- SETLED_CLEAR_OFF (R148). -/
def execSetledClearOff (channel : Int) (s : State) : Host.Outcome State Fault Refusal :=
  .next (reply (encodeLed channel .clear false) s)

/-- SETLED_WRITE_ON (R149). -/
def execSetledWriteOn (channel : Int) (s : State) : Host.Outcome State Fault Refusal :=
  .next (reply (encodeLed channel .write true) s)

/-- SETLED_WRITE_OFF (R149). -/
def execSetledWriteOff (channel : Int) (s : State) : Host.Outcome State Fault Refusal :=
  .next (reply (encodeLed channel .write false) s)

/-- SETLED_SHOW_ON (R150). -/
def execSetledShowOn (channel : Int) (s : State) : Host.Outcome State Fault Refusal :=
  .next (reply (encodeLed channel .show true) s)

/-- SETLED_SHOW_OFF (R150). -/
def execSetledShowOff (channel : Int) (s : State) : Host.Outcome State Fault Refusal :=
  .next (reply (encodeLed channel .show false) s)

/-- SETLED_MASTER_ON (R151). -/
def execSetledMasterOn (channel : Int) (s : State) : Host.Outcome State Fault Refusal :=
  .next (reply (encodeLed channel .master true) s)

/-- SETLED_MASTER_OFF (R151). -/
def execSetledMasterOff (channel : Int) (s : State) : Host.Outcome State Fault Refusal :=
  .next (reply (encodeLed channel .master false) s)

end Sys2Proof.Machine
end

