-- ==== Sys2Proof/Machine/SetSlider.lean ====
section
/-! DEFINITION. The outbound set-slider frame (R141). -/

namespace Sys2Proof.Machine

/-- SETSLIDER (R141): return the five-byte frame, or the rejection of an operand out of range. -/
def execSetslider (channel value : Int) (s : State) : Host.Outcome State Fault Refusal :=
  .next (reply (encodeSlider channel value) s)

end Sys2Proof.Machine
end

