-- ==== Sys2Proof/Machine/SliderFrame.lean ====
section
/-! DEFINITION. The inbound slider frame (R105). -/

namespace Sys2Proof.Machine

/-- SLIDER (R105): report the absolute position, consume five bytes. -/
def execSlider (channel : Channel) (value : Byte) (s : State) : Host.Outcome State Fault Refusal :=
  .next (acceptFrame (.sliderMove channel value) 5 s)

end Sys2Proof.Machine
end

