-- ==== Sys2Proof/Machine/Dispatch.lean ====
section
/-! DEFINITION. The dispatch from an instruction to its meaning. -/

namespace Sys2Proof.Machine

/-- The meaning of a frame kind: for an inbound frame, what FEED does once the frame stands decoded at the front of the
buffer (R170, Parsed arm); for an outbound one, what the encoder operation returns (R141, R142). -/
def exec (i : Instr) (s : State) : Host.Outcome State Fault Refusal :=
  match i with
  | .slider channel value => Sys2Proof.Machine.execSlider channel value s
  | .chbtnMutePress channel => Sys2Proof.Machine.execChbtnMutePress channel s
  | .chbtnMuteRelease channel => Sys2Proof.Machine.execChbtnMuteRelease channel s
  | .chbtnSoloPress channel => Sys2Proof.Machine.execChbtnSoloPress channel s
  | .chbtnSoloRelease channel => Sys2Proof.Machine.execChbtnSoloRelease channel s
  | .chbtnGangPress channel => Sys2Proof.Machine.execChbtnGangPress channel s
  | .chbtnGangRelease channel => Sys2Proof.Machine.execChbtnGangRelease channel s
  | .chbtnPanPress channel => Sys2Proof.Machine.execChbtnPanPress channel s
  | .chbtnPanRelease channel => Sys2Proof.Machine.execChbtnPanRelease channel s
  | .chbtnSliderPress channel => Sys2Proof.Machine.execChbtnSliderPress channel s
  | .chbtnSliderRelease channel => Sys2Proof.Machine.execChbtnSliderRelease channel s
  | .gbtnClearPress => Sys2Proof.Machine.execGbtnClearPress s
  | .gbtnClearRelease => Sys2Proof.Machine.execGbtnClearRelease s
  | .gbtnWritePress => Sys2Proof.Machine.execGbtnWritePress s
  | .gbtnWriteRelease => Sys2Proof.Machine.execGbtnWriteRelease s
  | .gbtnShowPress => Sys2Proof.Machine.execGbtnShowPress s
  | .gbtnShowRelease => Sys2Proof.Machine.execGbtnShowRelease s
  | .gbtnMasterPress => Sys2Proof.Machine.execGbtnMasterPress s
  | .gbtnMasterRelease => Sys2Proof.Machine.execGbtnMasterRelease s
  | .setslider channel value => Sys2Proof.Machine.execSetslider channel value s
  | .setledMuteOn channel => Sys2Proof.Machine.execSetledMuteOn channel s
  | .setledMuteOff channel => Sys2Proof.Machine.execSetledMuteOff channel s
  | .setledSoloOn channel => Sys2Proof.Machine.execSetledSoloOn channel s
  | .setledSoloOff channel => Sys2Proof.Machine.execSetledSoloOff channel s
  | .setledGangOn channel => Sys2Proof.Machine.execSetledGangOn channel s
  | .setledGangOff channel => Sys2Proof.Machine.execSetledGangOff channel s
  | .setledPanOn channel => Sys2Proof.Machine.execSetledPanOn channel s
  | .setledPanOff channel => Sys2Proof.Machine.execSetledPanOff channel s
  | .setledSliderOn channel => Sys2Proof.Machine.execSetledSliderOn channel s
  | .setledSliderOff channel => Sys2Proof.Machine.execSetledSliderOff channel s
  | .setledClearOn channel => Sys2Proof.Machine.execSetledClearOn channel s
  | .setledClearOff channel => Sys2Proof.Machine.execSetledClearOff channel s
  | .setledWriteOn channel => Sys2Proof.Machine.execSetledWriteOn channel s
  | .setledWriteOff channel => Sys2Proof.Machine.execSetledWriteOff channel s
  | .setledShowOn channel => Sys2Proof.Machine.execSetledShowOn channel s
  | .setledShowOff channel => Sys2Proof.Machine.execSetledShowOff channel s
  | .setledMasterOn channel => Sys2Proof.Machine.execSetledMasterOn channel s
  | .setledMasterOff channel => Sys2Proof.Machine.execSetledMasterOff channel s

end Sys2Proof.Machine
end

