-- ==== Sys2Proof/Machine/Stream.lean ====
section
/-! DEFINITION. The interface operations: FEED with its decode loop (R170 to R174), CLEAR (R175), ENCODE_SLIDER and
ENCODE_LED (R141, R142, R153). -/

namespace Sys2Proof.Machine

/-- R170, R172: the decode loop, with a bound on its rounds. A decoded frame runs its meaning; too few bytes end the
loop; a malformed frame enters the fault and ends it. -/
def drainLoop : Nat → State → Host.Outcome State Fault Refusal
  | 0, _ => .fault .decodeLoopUnfinished
  | n + 1, s =>
    match decodeFrame s.buf with
    | .incomplete => .next s
    | .malformed record => .next (enterFault record s)
    | .frame i =>
      match exec i s with
      | .next t => drainLoop n t
      | .fault f => .fault f
      | .refused r => .refused r

/-- The decode loop on the pending bytes. Every round but the last consumes at least three of them (R178), so one more
round than there are bytes is enough. -/
def drain (s : State) : Host.Outcome State Fault Refusal := drainLoop (s.buf.length + 1) s

/-- FEED (R170): a chunk longer than MAX_CHUNK is refused (R179; before the mode is tested: DEDUCED, safe, log 7), a
faulted block discards the chunk (R174), an empty chunk does nothing (R171), one over a small BUF_CAP is refused (R180);
any other joins the buffer and is decoded. -/
def runFeed (chunk : List Byte) (s : State) : Host.Outcome State Fault Refusal :=
  if s.params.maxChunk < chunk.length then .refused .chunkTooLong
  else match s.fault with
    | some _ => .next s
    | none =>
      if chunk.isEmpty then .next s
      else if fits s.params (s.buf.length + chunk.length) then drain (appendChunk chunk s)
      else .refused .bufferOverCapacity

/-- CLEAR (R175). -/
def runClear (s : State) : Host.Outcome State Fault Refusal := .next (clearSession s)

/-- ENCODE_SLIDER (R141) runs the outbound instruction with its operands. -/
def runEncodeSlider (channel value : Int) (s : State) : Host.Outcome State Fault Refusal :=
  exec (.setslider channel value) s

/-- ENCODE_LED (R142, R153) runs the outbound instruction of its key. A raw byte is taken only under KEY_INPUT = raw
byte, and is checked after the channel. DESIGN CHOICE (safe, log 8): a KeyCode value is taken under either setting. -/
def runEncodeLed (channel : Int) (key : KeyOperand) (on : Bool) (s : State) :
    Host.Outcome State Fault Refusal :=
  match key with
  | .code k => exec (ledInstr k on channel) s
  | .raw byte =>
    match s.params.keyInput with
    | .keyCode => .refused .rawKeyNotTaken
    | .rawByte =>
      match rawKeyRejection channel byte, keyOf byte with
      | some r, _ => .next (reply (.rejected r) s)
      | none, some k => exec (ledInstr k on channel) s
      | none, none => .next (reply (.rejected .unknownKey) s)

/-- One interface operation (R2). -/
def runOp : HostOp → State → Host.Outcome State Fault Refusal
  | .feed chunk, s => runFeed chunk s
  | .clear, s => runClear s
  | .encodeSlider channel value, s => runEncodeSlider channel value s
  | .encodeLed channel key on, s => runEncodeLed channel key on s

/-- R12, R49, R219: the block performs the oldest issued operation; with none it is idle and holds its state. -/
def runNext (s : State) : Host.Outcome State Fault Refusal :=
  match s.ops with
  | [] => .next s
  | op :: rest => runOp op { s with ops := rest }

/-- The parameters with room for one whole frame in one FEED. -/
def roomForFrame (p : Params) : Params :=
  { p with
    maxChunk := max p.maxChunk 5
    bufCap := p.bufCap.map fun cap => max cap 5 }

/-- The host issues, as its next operation, the one that carries a table word (DESIGN CHOICE, safe, log 6): an ENCODE
for a command, else a FEED of the word's bytes to a block with nothing pending and no fault, which takes a chunk of that
size. -/
def placeWord (s : State) (nbits w : Nat) : State :=
  match decodeTableWord nbits w with
  | some i =>
    match i.direction with
    | .outbound => { s with ops := i.hostOp :: s.ops }
    | .inbound => placeBytes s nbits w
  | none => placeBytes s nbits w
where
  /-- A FEED of a table word's bytes to a block that takes them at offset 0. -/
  placeBytes (s : State) (nbits w : Nat) : State :=
    { s with
      buf := []
      fault := none
      params := roomForFrame s.params
      ops := .feed (tableBytes nbits w) :: s.ops }

end Sys2Proof.Machine
end

