-- ==== Sys2Proof/Machine/Flags.lean ====
section
/-! DEFINITION. The status of the block. It has no flags and no status register (R27, R28): the mode is a function of the
fault record (R24), and the read-out is the pair of R28, with the codes of R200, R205 and R206. -/

namespace Sys2Proof.Machine

/-- R24: the two session modes. -/
inductive Mode where
  | active
  | faulted
  deriving DecidableEq, Repr

/-- R24: the mode is read off `fault`. -/
def State.mode (s : State) : Mode :=
  match s.fault with
  | none => .active
  | some _ => .faulted

/-- R28: what the host may read between operations, with no side effect. -/
def State.readStatus (s : State) : Option FaultRecord × List Byte := (s.fault, s.buf)

/-- R200: the code of a reason. -/
def reasonCode : Reason → Nat
  | .invalidChannel => 1
  | .invalidFrameType => 2
  | .invalidFieldValue => 3
  | .unknownMessageClass => 4

/-- R205: the code of a field. -/
def fieldCode : FieldId → Nat
  | .marker => 1
  | .low => 2
  | .high => 3
  | .event => 4

/-- R206: the code of a rejection. -/
def rejectCode : RejectReason → Nat
  | .channelOutOfRange => 1
  | .valueOutOfRange => 2
  | .unknownKey => 3

end Sys2Proof.Machine
end

