-- ==== Sys2Proof/Safety.lean ====
section
/-! DEFINITION. The terms the claims use: the invariant of the block between operations (R22, R24), R170's loop as the
spec writes it, and the views that compare two runs. -/

namespace Sys2Proof.Machine

/-- R22, R24: between operations an ACTIVE block holds bytes `decode_one` calls Incomplete, and a FAULTED one holds the
offending frame at the front of its buffer, with the outcome it recorded. -/
def State.Inv (s : State) : Prop :=
  decodeOne s.buf = match s.fault with
    | none => .incomplete
    | some r => .malformed r

/-- R170's loop, line by line, over `decode_one`: the events, the buffer and the fault it ends with; `none` if it has
not ended within the given rounds. -/
def specLoop : Nat → List Byte → List ControlEvent →
    Option (List ControlEvent × List Byte × Option FaultRecord)
  | 0, _, _ => none
  | n + 1, b, evs =>
    match decodeOne b with
    | .parsed e c => specLoop n (b.drop c) (evs ++ [e])
    | .incomplete => some (evs, b, none)
    | .malformed r => some (evs, b, some r)

/-- A FEED's chunk is one the block takes in this state (R179, R180). -/
abbrev TakesChunk (s : State) (chunk : List Byte) : Prop :=
  chunk.length ≤ s.params.maxChunk ∧ fits s.params (s.buf.length + chunk.length) = true

/-- Apply a view to the state of a next outcome. -/
def mapNext (f : State → State) :
    Host.Outcome State Fault Refusal → Host.Outcome State Fault Refusal
  | .next s => .next (f s)
  | .fault r => .fault r
  | .refused r => .refused r

/-- The same state behind another form of consumer (R6). -/
def State.withConsumer (c : Consumer) (s : State) : State :=
  { s with params := { s.params with consumer := c } }

/-- The same state with another record of encoder replies. -/
def State.withReplies (l : List EncodeOutcome) (s : State) : State := { s with replies := l }

/-- The same state with other decoder contents and another record of delivered events. -/
def State.withDecoder (b : List Byte) (f : Option FaultRecord) (evs : List ControlEvent) (s : State) :
    State :=
  { s with buf := b, fault := f, events := evs }

end Sys2Proof.Machine
end

