-- ==== Sys2Proof/Certificates/Slice0/Obligations.lean ====
section
/-! DEFINITION. The statements about the block. Each docstring names the rules of spec/ it formalises. -/

open Sys2Proof Sys2Proof.Machine

/-! ### The decoder -/

/-- Words written out from the spec's layouts stand for the frame kinds they name: three inbound ones, as the block
decodes them (R64 to R66), and two outbound ones, as the model's own `decodeCommand` reads the layouts of R70 and R71
back (DESIGN CHOICE, log 15: the block never decodes its output, R53). -/
def Obligations.KnownBytesDecode : Prop :=
  decodeFrame [0xB0#8, 0x07#8, 0x0A#8, 0x27#8, 0x40#8] = .frame (.slider 0 21#8) ∧
  decodeFrame [0xB2#8, 0x49#8, 0x7F#8] = .frame (.chbtnPanPress 2) ∧
  decodeFrame [0xB0#8, 0x70#8, 0x00#8] = .frame .gbtnClearRelease ∧
  decodeCommand [0xB3#8, 0x07#8, 0x64#8, 0x27#8, 0x00#8] = some (.setslider 3 200) ∧
  decodeCommand [0xB5#8, 0x47#8, 0x7F#8] = some (.setledSoloOn 5)

/-- R102. -/
def Obligations.ShortBufferIsIncomplete : Prop :=
  ∀ b : List Byte, b.length < 2 → decodeOne b = .incomplete

/-- R103: the status check comes before the type byte is looked at, and a frame's channel is the status byte less
`0xb0`. That the record has no field and holds the first two bytes is R121, the spec's decision D9 (log 11). -/
def Obligations.StatusByteChecked : Prop :=
  ∀ (s t : Byte) (rest : List Byte),
    (¬ (0xB0 ≤ s.toNat ∧ s.toNat ≤ 0xB7) →
      decodeOne (s :: t :: rest) = .malformed ⟨.invalidChannel, none, [s, t]⟩) ∧
    (∀ c v n, decodeOne (s :: t :: rest) = .parsed (.sliderMove c v) n →
      c.val = s.toNat - 0xB0) ∧
    (∀ c k p n, decodeOne (s :: t :: rest) = .parsed (.channelButton c k p) n →
      c.val = s.toNat - 0xB0)

/-- R105 and R208: the slider frame: its type byte at two bytes, its fields at five, in the order marker, low, high;
the value in plain arithmetic. The order is the spec's decision D7 and the records' bytes its decision D9 (R121; log
11). -/
def Obligations.SliderFrameDecodes : Prop :=
  ∀ (s t : Byte) (rest : List Byte), 0xB0 ≤ s.toNat → s.toNat ≤ 0xB7 → t.toNat / 16 = 0 →
    (t ≠ 0x07#8 → decodeOne (s :: t :: rest) = .malformed ⟨.invalidFrameType, none, [s, t]⟩) ∧
    (t = 0x07#8 →
      (rest.length < 3 → decodeOne (s :: t :: rest) = .incomplete) ∧
      ∀ (high marker low : Byte) (tail : List Byte), rest = high :: marker :: low :: tail →
        (marker ≠ 0x27#8 → decodeOne (s :: t :: rest)
          = .malformed ⟨.invalidFieldValue, some .marker, [s, t, high, marker, low]⟩) ∧
        (marker = 0x27#8 → low ≠ 0x00#8 → low ≠ 0x40#8 → decodeOne (s :: t :: rest)
          = .malformed ⟨.invalidFieldValue, some .low, [s, t, high, marker, low]⟩) ∧
        (marker = 0x27#8 → (low = 0x00#8 ∨ low = 0x40#8) → 0x7F < high.toNat →
          decodeOne (s :: t :: rest)
            = .malformed ⟨.invalidFieldValue, some .high, [s, t, high, marker, low]⟩) ∧
        (marker = 0x27#8 → (low = 0x00#8 ∨ low = 0x40#8) → high.toNat ≤ 0x7F →
          ∃ (c : Channel) (v : Byte), c.val = s.toNat - 0xB0 ∧
            v.toNat = 2 * high.toNat + low.toNat / 64 ∧
            decodeOne (s :: t :: rest) = .parsed (.sliderMove c v) 5))

/-- R106 to R111: the channel-button frames, on every channel, for every type byte of class 4. The bytes the records
hold are R121's, the spec's decision D9 (log 11). -/
def Obligations.ChannelButtonFramesDecode : Prop :=
  ∀ (s t : Byte) (rest : List Byte), 0xB0 ≤ s.toNat → s.toNat ≤ 0xB7 → t.toNat / 16 = 4 →
    ((∀ k, isChannelKey k = true → keyByte k ≠ t) →
      decodeOne (s :: t :: rest) = .malformed ⟨.invalidFrameType, none, [s, t]⟩) ∧
    ∀ k, isChannelKey k = true → t = keyByte k →
      (rest = [] → decodeOne (s :: t :: rest) = .incomplete) ∧
      ∀ (e : Byte) (tail : List Byte), rest = e :: tail →
        (e ≠ 0x00#8 → e ≠ 0x7F#8 → decodeOne (s :: t :: rest)
          = .malformed ⟨.invalidFieldValue, some .event, [s, t, e]⟩) ∧
        (e = 0x00#8 → ∃ c : Channel, c.val = s.toNat - 0xB0 ∧
          decodeOne (s :: t :: rest) = .parsed (.channelButton c k false) 3) ∧
        (e = 0x7F#8 → ∃ c : Channel, c.val = s.toNat - 0xB0 ∧
          decodeOne (s :: t :: rest) = .parsed (.channelButton c k true) 3)

/-- R112 to R116: the global-button frames: channel before key, key before event. The reason InvalidChannel for a
channel other than 0 is the spec's decision D8 (90_conflicts.md C1; log 11). The records' bytes are its decision D9
(R121). -/
def Obligations.GlobalButtonFramesDecode : Prop :=
  ∀ (s t : Byte) (rest : List Byte), 0xB0 ≤ s.toNat → s.toNat ≤ 0xB7 → t.toNat / 16 = 7 →
    (s ≠ 0xB0#8 → decodeOne (s :: t :: rest) = .malformed ⟨.invalidChannel, none, [s, t]⟩) ∧
    (s = 0xB0#8 → (∀ k, isChannelKey k = false → keyByte k ≠ t) →
      decodeOne (s :: t :: rest) = .malformed ⟨.invalidFrameType, none, [s, t]⟩) ∧
    ∀ k, isChannelKey k = false → t = keyByte k → s = 0xB0#8 →
      (rest = [] → decodeOne (s :: t :: rest) = .incomplete) ∧
      ∀ (e : Byte) (tail : List Byte), rest = e :: tail →
        (e ≠ 0x00#8 → e ≠ 0x7F#8 → decodeOne (s :: t :: rest)
          = .malformed ⟨.invalidFieldValue, some .event, [s, t, e]⟩) ∧
        (e = 0x00#8 → decodeOne (s :: t :: rest) = .parsed (.globalButton k false) 3) ∧
        (e = 0x7F#8 → decodeOne (s :: t :: rest) = .parsed (.globalButton k true) 3)

/-- R117. -/
def Obligations.UnknownClassIsMalformed : Prop :=
  ∀ (s t : Byte) (rest : List Byte), 0xB0 ≤ s.toNat → s.toNat ≤ 0xB7 →
    t.toNat / 16 ≠ 0 → t.toNat / 16 ≠ 4 → t.toNat / 16 ≠ 7 →
    decodeOne (s :: t :: rest) = .malformed ⟨.unknownMessageClass, none, [s, t]⟩

/-- R118: the outcome depends on the frame's own bytes only; every prefix of a buffer is Incomplete or has the buffer's
own outcome, and a parsed frame's prefixes are told apart by its length. -/
def Obligations.PrefixesAgree : Prop :=
  ∀ b : List Byte,
    (2 ≤ b.length → decodeOne b = decodeOne (b.take (frameLength b))) ∧
    (∀ e c, decodeOne b = .parsed e c → ∀ p, p <+: b →
      decodeOne p = if p.length < c then .incomplete else .parsed e c) ∧
    (∀ r, decodeOne b = .malformed r → ∀ p, p <+: b →
      decodeOne p = .incomplete ∨ decodeOne p = .malformed r)

/-- R22, R122: the buffers that wait for more bytes, exactly; none is longer than four bytes. -/
def Obligations.IncompleteBuffersExactly : Prop :=
  ∀ b : List Byte,
    (decodeOne b = .incomplete ↔
      b.length < 2 ∨
      ∃ (s t : Byte) (rest : List Byte), b = s :: t :: rest ∧ 0xB0 ≤ s.toNat ∧ s.toNat ≤ 0xB7 ∧
        ((t = 0x07#8 ∧ rest.length ≤ 2) ∨
         (0x46 ≤ t.toNat ∧ t.toNat ≤ 0x4A ∧ rest = []) ∨
         (s = 0xB0#8 ∧ 0x70 ≤ t.toNat ∧ t.toNat ≤ 0x73 ∧ rest = []))) ∧
    (decodeOne b = .incomplete → b.length ≤ 4)

/-- R119: a parsed frame's count is its length, 5 for a slider and 3 for a button; the buffer holds that many bytes, and
bytes behind them make no difference. -/
def Obligations.ConsumedIsTheFrameLength : Prop :=
  ∀ (b : List Byte) (e : ControlEvent) (c : Nat), decodeOne b = .parsed e c →
    c = (match e with
      | .sliderMove _ _ => 5
      | .channelButton _ _ _ => 3
      | .globalButton _ _ => 3) ∧
    c ≤ b.length ∧ ∀ tail, decodeOne (b.take c ++ tail) = .parsed e c

/-- R121, the spec's decision D9 (log 11): the offending bytes are the part the failed check examined, whatever bytes
follow. -/
def Obligations.OffendingBytesAreTheExaminedPart : Prop :=
  ∀ (b : List Byte) (r : FaultRecord), decodeOne b = .malformed r →
    (r.reason ≠ .invalidFieldValue → r.field = none ∧ r.bytes = b.take 2 ∧ r.bytes.length = 2) ∧
    (r.reason = .invalidFieldValue →
      (r.field = some .event ∧ r.bytes = b.take 3 ∧ r.bytes.length = 3) ∨
      ((r.field = some .marker ∨ r.field = some .low ∨ r.field = some .high) ∧
        r.bytes = b.take 5 ∧ r.bytes.length = 5)) ∧
    ∀ tail, decodeOne (b ++ tail) = .malformed r

/-- R123: what a Parsed outcome guarantees of the bytes, and of the key's class. -/
def Obligations.ParsedFramePassedEveryCheck : Prop :=
  ∀ (b : List Byte) (e : ControlEvent) (n : Nat), decodeOne b = .parsed e n →
    (∃ s, b[0]? = some s ∧ 0xB0 ≤ s.toNat ∧ s.toNat ≤ 0xB7) ∧
    match e with
    | .sliderMove _ _ =>
      b[1]? = some 0x07#8 ∧ b[3]? = some 0x27#8 ∧ (b[4]? = some 0x00#8 ∨ b[4]? = some 0x40#8) ∧
      ∃ h, b[2]? = some h ∧ h.toNat ≤ 0x7F
    | .channelButton _ k p =>
      isChannelKey k = true ∧ b[1]? = some (keyByte k) ∧
      b[2]? = some (if p then 0x7F#8 else 0x00#8)
    | .globalButton k p =>
      isChannelKey k = false ∧ b[0]? = some 0xB0#8 ∧ b[1]? = some (keyByte k) ∧
      b[2]? = some (if p then 0x7F#8 else 0x00#8)

/-- R47: a stream entered inside a frame is Malformed with InvalidChannel as soon as two bytes are there. The record's
bytes are the spec's decision D9 (R121; log 11). -/
def Obligations.MisalignedStartIsInvalidChannel : Prop :=
  ∀ (i : Instr) (k : Nat) (rest : List Byte), i.direction = .inbound →
    0 < k → k < (encode i).length → 2 ≤ ((encode i).drop k ++ rest).length →
    decodeOne ((encode i).drop k ++ rest)
      = .malformed ⟨.invalidChannel, none, ((encode i).drop k ++ rest).take 2⟩

/-- R101: the decoder the machine runs answers what the spec's `decode_one` answers. -/
def Obligations.MachineDecoderIsDecodeOne : Prop :=
  ∀ b : List Byte, decodeOne b = (decodeFrame b).outcome

/-- R77, R78: a buffer decodes to a frame exactly when it matches an inbound row of the opcode table, and the row it
matches is the frame's. -/
def Obligations.InboundRowsDecideFrames : Prop :=
  (∀ b i, decodeFrame b = .frame i → i.row ∈ inboundRows ∧ i.row.selects b = true) ∧
  (∀ b row, row ∈ inboundRows → row.selects b = true → ∃ i, decodeFrame b = .frame i ∧ i.row = row)

/-! ### Decoding and encoding -/

/-- R64 to R66, R70, R71: decoding the bytes of a well-formed instruction, in its own direction and with any bytes
behind them, gives the instruction back, with every operand. The outbound reading, `decodeCommand`, is the model's own
(DESIGN CHOICE, log 15). -/
def Obligations.DecodeOfEncode : Prop :=
  ∀ (i : Instr) (tail : List Byte), WellFormed i → decode i.direction (encode i ++ tail) = some i

/-- R155: the round-trip laws of the encoder's output, and the fourth: a global key on another channel than 0 is
encoded to bytes the inbound decoder rejects. The record of the fourth rests on the spec's decisions D8 and D9 (log
11). -/
def Obligations.EncoderOutputDecodesBack : Prop :=
  (∀ c v : Int, 0 ≤ c → c ≤ 7 → 0 ≤ v → v ≤ 255 →
    ∃ (f : List Byte) (ch : Channel) (val : Byte), encodeSlider c v = .ok f ∧
      (ch.val : Int) = c ∧ (val.toNat : Int) = v ∧
      decodeOne f = .parsed (.sliderMove ch val) 5) ∧
  (∀ (c : Int) (k : KeyCode) (on : Bool), 0 ≤ c → c ≤ 7 → isChannelKey k = true →
    ∃ (f : List Byte) (ch : Channel), encodeLed c k on = .ok f ∧ (ch.val : Int) = c ∧
      decodeOne f = .parsed (.channelButton ch k on) 3) ∧
  (∀ (k : KeyCode) (on : Bool), isChannelKey k = false →
    ∃ f : List Byte, encodeLed 0 k on = .ok f ∧ decodeOne f = .parsed (.globalButton k on) 3) ∧
  (∀ (c : Int) (k : KeyCode) (on : Bool), 1 ≤ c → c ≤ 7 → isChannelKey k = false →
    ∃ (f : List Byte) (s : Byte), encodeLed c k on = .ok f ∧ (s.toNat : Int) = 0xB0 + c ∧
      decodeOne f = .malformed ⟨.invalidChannel, none, [s, keyByte k]⟩)

/-- R156: the encoder's frames have a fixed length, and a set-slider frame's bytes are legal bytes of R64. -/
def Obligations.EncoderOutputIsLegal : Prop :=
  (∀ (c v : Int) (f : List Byte), encodeSlider c v = .ok f →
    ∃ s h l : Byte, f = [s, 0x07#8, h, 0x27#8, l] ∧ 0xB0 ≤ s.toNat ∧ s.toNat ≤ 0xB7 ∧
      h.toNat ≤ 0x7F ∧ (l = 0x00#8 ∨ l = 0x40#8)) ∧
  (∀ (c : Int) (k : KeyCode) (on : Bool) (f : List Byte), encodeLed c k on = .ok f → f.length = 3)

/-- R69: the nine key codes, their bytes, their class nibbles and the frames they are valid in, one to one. -/
def Obligations.KeyCodesAndBytesCorrespond : Prop :=
  keyByte .mute = 0x46#8 ∧ keyByte .solo = 0x47#8 ∧ keyByte .gang = 0x48#8 ∧
  keyByte .pan = 0x49#8 ∧ keyByte .slider = 0x4A#8 ∧ keyByte .clear = 0x70#8 ∧
  keyByte .write = 0x71#8 ∧ keyByte .show = 0x72#8 ∧ keyByte .master = 0x73#8 ∧
  (∀ k : KeyCode, isChannelKey k = true ↔ k ∈ [.mute, .solo, .gang, .pan, .slider]) ∧
  (∀ k : KeyCode, (keyByte k).toNat / 16 = if isChannelKey k then 4 else 7) ∧
  (∀ k : KeyCode, keyOf (keyByte k) = some k) ∧
  (∀ (b : Byte) (k : KeyCode), keyOf b = some k → keyByte k = b)

/-! ### What an instruction does -/

/-- R105, R170: the slider frame at the front of an ACTIVE block's buffer reports its event and takes five bytes, and
nothing else changes. That an instruction run on a FAULTED block does nothing is the model's reading of R24 and R174
(log 4): there a FEED decodes no frame at all. -/
def Obligations.SliderFrameRuns : Prop :=
  ∀ (c : Channel) (v : Byte) (s : State),
    (s.fault = none → exec (.slider c v) s
      = .next { s with buf := s.buf.drop 5, events := s.events ++ [.sliderMove c v] }) ∧
    (∀ r, s.fault = some r → exec (.slider c v) s = .next s)

/-- R107 to R111, R170: the ten channel-button frames; the FAULTED clause is the model's (log 4). -/
def Obligations.ChannelButtonFramesRun : Prop :=
  ∀ (c : Channel) (s : State),
    let accepts (i : Instr) (k : KeyCode) (p : Bool) : Prop :=
      (s.fault = none → exec i s
        = .next { s with buf := s.buf.drop 3, events := s.events ++ [.channelButton c k p] }) ∧
      (∀ r, s.fault = some r → exec i s = .next s)
    accepts (.chbtnMutePress c) .mute true ∧ accepts (.chbtnMuteRelease c) .mute false ∧
    accepts (.chbtnSoloPress c) .solo true ∧ accepts (.chbtnSoloRelease c) .solo false ∧
    accepts (.chbtnGangPress c) .gang true ∧ accepts (.chbtnGangRelease c) .gang false ∧
    accepts (.chbtnPanPress c) .pan true ∧ accepts (.chbtnPanRelease c) .pan false ∧
    accepts (.chbtnSliderPress c) .slider true ∧ accepts (.chbtnSliderRelease c) .slider false

/-- R113 to R116, R170: the eight global-button frames; the FAULTED clause is the model's (log 4). -/
def Obligations.GlobalButtonFramesRun : Prop :=
  ∀ s : State,
    let accepts (i : Instr) (k : KeyCode) (p : Bool) : Prop :=
      (s.fault = none → exec i s
        = .next { s with buf := s.buf.drop 3, events := s.events ++ [.globalButton k p] }) ∧
      (∀ r, s.fault = some r → exec i s = .next s)
    accepts .gbtnClearPress .clear true ∧ accepts .gbtnClearRelease .clear false ∧
    accepts .gbtnWritePress .write true ∧ accepts .gbtnWriteRelease .write false ∧
    accepts .gbtnShowPress .show true ∧ accepts .gbtnShowRelease .show false ∧
    accepts .gbtnMasterPress .master true ∧ accepts .gbtnMasterRelease .master false

/-- R141: the set-slider frame with its bytes in plain arithmetic, or the rejection, the channel tested first. Only the
reply is added, in every mode. -/
def Obligations.SetSliderReplies : Prop :=
  ∀ (c v : Int) (s : State),
    (¬ (0 ≤ c ∧ c ≤ 7) → exec (.setslider c v) s
      = .next { s with replies := s.replies ++ [.rejected .channelOutOfRange] }) ∧
    (0 ≤ c → c ≤ 7 → ¬ (0 ≤ v ∧ v ≤ 255) → exec (.setslider c v) s
      = .next { s with replies := s.replies ++ [.rejected .valueOutOfRange] }) ∧
    (0 ≤ c → c ≤ 7 → 0 ≤ v → v ≤ 255 →
      ∃ st h l : Byte, (st.toNat : Int) = 0xB0 + c ∧ (h.toNat : Int) = v / 2 ∧
        (l.toNat : Int) = 64 * (v % 2) ∧
        exec (.setslider c v) s
          = .next { s with replies := s.replies ++ [.ok [st, 0x07#8, h, 0x27#8, l]] })

/-- R142 to R151: the eighteen set-LED frames, or the rejection of the channel. Only the reply is added, in every
mode. -/
def Obligations.SetLedReplies : Prop :=
  ∀ (c : Int) (s : State),
    let replies (i : Instr) (key event : Byte) : Prop :=
      (¬ (0 ≤ c ∧ c ≤ 7) → exec i s
        = .next { s with replies := s.replies ++ [.rejected .channelOutOfRange] }) ∧
      (0 ≤ c → c ≤ 7 → ∃ st : Byte, (st.toNat : Int) = 0xB0 + c ∧
        exec i s = .next { s with replies := s.replies ++ [.ok [st, key, event]] })
    replies (.setledMuteOn c) 0x46#8 0x7F#8 ∧ replies (.setledMuteOff c) 0x46#8 0x00#8 ∧
    replies (.setledSoloOn c) 0x47#8 0x7F#8 ∧ replies (.setledSoloOff c) 0x47#8 0x00#8 ∧
    replies (.setledGangOn c) 0x48#8 0x7F#8 ∧ replies (.setledGangOff c) 0x48#8 0x00#8 ∧
    replies (.setledPanOn c) 0x49#8 0x7F#8 ∧ replies (.setledPanOff c) 0x49#8 0x00#8 ∧
    replies (.setledSliderOn c) 0x4A#8 0x7F#8 ∧ replies (.setledSliderOff c) 0x4A#8 0x00#8 ∧
    replies (.setledClearOn c) 0x70#8 0x7F#8 ∧ replies (.setledClearOff c) 0x70#8 0x00#8 ∧
    replies (.setledWriteOn c) 0x71#8 0x7F#8 ∧ replies (.setledWriteOff c) 0x71#8 0x00#8 ∧
    replies (.setledShowOn c) 0x72#8 0x7F#8 ∧ replies (.setledShowOff c) 0x72#8 0x00#8 ∧
    replies (.setledMasterOn c) 0x73#8 0x7F#8 ∧ replies (.setledMasterOff c) 0x73#8 0x00#8

/-! ### A step -/

/-- R12, R170: a FEED whose pending bytes begin with a frame runs that frame's instruction on them, and goes on decoding
what is left; where the frame was all there was, the step is the instruction. -/
def Obligations.StepRunsTheDecodedFrame : Prop :=
  ∀ (s : State) (chunk : List Byte) (rest : List HostOp) (i : Instr),
    s.ops = .feed chunk :: rest → s.fault = none → chunk ≠ [] → TakesChunk s chunk →
    decodeFrame (s.buf ++ chunk) = .frame i →
    ∃ t, exec i { s with ops := rest, buf := s.buf ++ chunk } = .next t ∧ step s = drain t ∧
      (t.buf = [] → step s = .next t)

/-- R12, R141, R142: an ENCODE operation's step is its outbound instruction, whatever the operands, in either mode, and
under either form of KEY_INPUT; that a KeyCode operand is taken under KEY_INPUT = raw byte too is the model's DESIGN
CHOICE (log 8). The raw-byte operand is `RawKeyByteIsChecked`. -/
def Obligations.StepRunsTheEncoderInstruction : Prop :=
  ∀ (s : State) (rest : List HostOp) (i : Instr), i.direction = .outbound →
    s.ops = i.hostOp :: rest → step s = exec i { s with ops := rest }

/-- R77 and the model's own `withFetchWord` (log 5, 6; for an outbound key under KEY_INPUT = raw byte also log 8): a
table word that stands for an instruction is run by the very next step, as that instruction, and the operations
already issued wait behind it. -/
def Obligations.PlacedWordIsRunNext : Prop :=
  ∀ (s : State) (nbits w : Nat) (i : Instr), decodeTableWord nbits w = some i →
    (i.direction = .outbound → step (s.withFetchWord nbits w) = exec i s) ∧
    (i.direction = .inbound → step (s.withFetchWord nbits w)
      = exec i { s with buf := encode i, fault := none, params := roomForFrame s.params })

/-- R170, R172: a FEED is the spec's pseudocode: a no-op on a faulted block or an empty chunk, else the events, the
buffer and the fault its loop over `decode_one` ends with. That a FAULTED block discards the chunk is the spec's
decision D5 (R174; log 11); the sticky record and the frozen buffer are its decision D4 (R24, R172; log 10, 11). -/
def Obligations.FeedFollowsThePseudocode : Prop :=
  ∀ (s : State) (chunk : List Byte) (rest : List HostOp), s.ops = .feed chunk :: rest →
    TakesChunk s chunk →
    (s.fault ≠ none → step s = .next { s with ops := rest }) ∧
    (s.fault = none → chunk = [] → step s = .next { s with ops := rest }) ∧
    (s.fault = none → chunk ≠ [] →
      ∃ (evs : List ControlEvent) (b : List Byte) (f : Option FaultRecord),
        specLoop ((s.buf ++ chunk).length + 1) (s.buf ++ chunk) [] = some (evs, b, f) ∧
        step s = .next { s with ops := rest, buf := b, fault := f, events := s.events ++ evs })

/-- R21, R173, R210: a FEED that decodes removes exactly the bytes of whole frames from the front, delivers exactly
their events in order, and ends with bytes too few, or with the offending frame at the front and its record set; the
rest of the state stays. The record and the frozen buffer are the spec's decision D4 (log 10, 11). -/
def Obligations.FeedIsPreciseAtFrames : Prop :=
  ∀ (s : State) (chunk : List Byte) (rest : List HostOp), s.ops = .feed chunk :: rest →
    s.fault = none → chunk ≠ [] → TakesChunk s chunk →
    ∃ (is : List Instr) (b : List Byte) (f : Option FaultRecord),
      (∀ i ∈ is, i.direction = .inbound) ∧ s.buf ++ chunk = is.flatMap encode ++ b ∧
      decodeOne b = (match f with | none => .incomplete | some r => .malformed r) ∧
      step s = .next { s with
        ops := rest
        buf := b
        fault := f
        events := s.events ++ is.filterMap Instr.event? }

/-- R171, with its remark that running the loop on an ACTIVE block's pending bytes would change nothing either. -/
def Obligations.EmptyChunkChangesNothing : Prop :=
  (∀ (s : State) (rest : List HostOp), s.ops = .feed [] :: rest →
    step s = .next { s with ops := rest }) ∧
  (∀ s : State, s.Inv → s.fault = none → drain s = .next s)

/-- R174, the spec's decision D5 (log 11): a FEED of a FAULTED block discards its chunk. -/
def Obligations.FaultedFeedDiscardsTheChunk : Prop :=
  ∀ (s : State) (chunk : List Byte) (rest : List HostOp) (r : FaultRecord),
    s.ops = .feed chunk :: rest → s.fault = some r → chunk.length ≤ s.params.maxChunk →
    step s = .next { s with ops := rest }

/-- R175, with the spec's decision D13 for the fault (log 11): CLEAR empties the buffer and resets the fault, in either
mode, and emits nothing; twice is once. -/
def Obligations.ClearStartsASession : Prop :=
  ∀ (s : State) (rest : List HostOp),
    (s.ops = .clear :: rest → step s = .next { s with ops := rest, buf := [], fault := none }) ∧
    (∀ t, s.ops = .clear :: .clear :: rest → step s = .next t →
      step t = step { s with ops := .clear :: rest })

/-- R219: with no operation issued the block holds its state. -/
def Obligations.IdleBlockHoldsItsState : Prop :=
  ∀ s : State, s.ops = [] → step s = .next s

/-- R24, R212: while FAULTED, no operation but CLEAR changes the buffer, the record or the delivered events. The
frozen buffer and the discarded chunks are the spec's decisions D4 and D5 (log 10, 11). -/
def Obligations.FaultedBlockIsFrozen : Prop :=
  ∀ (s t : State) (r : FaultRecord), s.fault = some r → step s = .next t →
    (∀ rest, s.ops ≠ .clear :: rest) →
    t.fault = some r ∧ t.buf = s.buf ∧ t.events = s.events

/-- R23, R211: only FEED sets the fault, and only CLEAR resets it. The sticky record and its reset are the spec's
decisions D4 and D13 (log 11). -/
def Obligations.OnlyFeedFaultsOnlyClearRecovers : Prop :=
  ∀ s t : State, step s = .next t →
    (s.fault = none → t.fault ≠ none → ∃ chunk rest, s.ops = .feed chunk :: rest) ∧
    (∀ r, s.fault = some r → t.fault ≠ some r → ∃ rest, s.ops = .clear :: rest ∧ t.fault = none)

/-- R173: nothing delivered or returned is ever withdrawn. -/
def Obligations.DeliveredIsNeverWithdrawn : Prop :=
  ∀ s t : State, step s = .next t → s.events <+: t.events ∧ s.replies <+: t.replies

/-- R29: an encoder operation neither reads nor writes the decoder's state. -/
def Obligations.EncoderAndDecoderStateAreApart : Prop :=
  ∀ (s : State) (op : HostOp) (rest : List HostOp), s.ops = op :: rest →
    (∀ chunk, op ≠ .feed chunk) → op ≠ .clear →
    (∀ t, step s = .next t → ∃ o, t = { s with ops := rest, replies := s.replies ++ [o] }) ∧
    (∀ b f evs, step (s.withDecoder b f evs) = mapNext (State.withDecoder b f evs) (step s))

/-- R53: the encoder's output is not fed back: what FEED and CLEAR do depends on no reply. -/
def Obligations.DecoderIgnoresReplies : Prop :=
  ∀ (s : State) (op : HostOp) (rest : List HostOp), s.ops = op :: rest →
    ((∃ chunk, op = .feed chunk) ∨ op = .clear) →
    ∀ l, step (s.withReplies l) = mapNext (State.withReplies l) (step s)

/-- R154, the spec's decision D12 (log 11): every key is encoded on every channel, in either mode, and under either
form of KEY_INPUT, the last by the model's choice (log 8). -/
def Obligations.EveryKeyOnEveryChannelEncodes : Prop :=
  ∀ (s : State) (c : Int) (k : KeyCode) (on : Bool) (rest : List HostOp),
    s.ops = .encodeLed c (.code k) on :: rest → 0 ≤ c → c ≤ 7 →
    ∃ st : Byte, (st.toNat : Int) = 0xB0 + c ∧
      step s = .next { s with
        ops := rest
        replies := s.replies ++ [.ok [st, keyByte k, if on then 0x7F#8 else 0x00#8]] }

/-- R153, R209: under KEY_INPUT = raw byte the channel is checked first, then the key byte; a key's own byte gives the
frame of the key. -/
def Obligations.RawKeyByteIsChecked : Prop :=
  ∀ (s : State) (c : Int) (b : Byte) (on : Bool) (rest : List HostOp),
    s.ops = .encodeLed c (.raw b) on :: rest → s.params.keyInput = .rawByte →
    (¬ (0 ≤ c ∧ c ≤ 7) → step s = .next { s with
      ops := rest
      replies := s.replies ++ [.rejected .channelOutOfRange] }) ∧
    (0 ≤ c → c ≤ 7 → (∀ k, keyByte k ≠ b) → step s = .next { s with
      ops := rest
      replies := s.replies ++ [.rejected .unknownKey] }) ∧
    (∀ k, 0 ≤ c → c ≤ 7 → keyByte k = b →
      ∃ st : Byte, (st.toNat : Int) = 0xB0 + c ∧ step s = .next { s with
        ops := rest
        replies := s.replies ++ [.ok [st, b, if on then 0x7F#8 else 0x00#8]] })

/-! ### Streams -/

/-- R177: any number of valid frames in one chunk, from an empty buffer, give exactly their events in order and an empty
remainder. -/
def Obligations.ConcatenatedFramesAllDecode : Prop :=
  ∀ (s : State) (is : List Instr) (rest : List HostOp), (∀ i ∈ is, i.direction = .inbound) →
    s.fault = none → s.buf = [] → s.ops = .feed (is.flatMap encode) :: rest →
    TakesChunk s (is.flatMap encode) →
    ∃ evs, evs.length = is.length ∧ is.map Instr.event? = evs.map some ∧
      step s = .next { s with ops := rest, events := s.events ++ evs }

/-- R176: chunk boundaries are invisible. Feeding `x` then `y` and feeding `x ++ y` deliver the same events and end
with the same fault; without a fault they end in the same state, and with one the buffers differ by bytes of `y` only.
The fault record and the frozen buffer are the spec's decision D4 (log 10, 11). -/
def Obligations.ChunkBoundariesAreInvisible : Prop :=
  ∀ (s : State) (x y : List Byte) (rest : List HostOp), s.fault = none → TakesChunk s (x ++ y) →
    ∃ t₁ t₂ u, step { s with ops := .feed x :: .feed y :: rest } = .next t₁ ∧
      step t₁ = .next t₂ ∧ step { s with ops := .feed (x ++ y) :: rest } = .next u ∧
      t₂.events = u.events ∧ t₂.fault = u.fault ∧ (u.fault = none → t₂ = u) ∧
      ∃ z, z <:+ y ∧ u = { t₂ with buf := t₂.buf ++ z }

/-- R182: a chunk fed whole and its bytes fed one at a time give the same events and the same fault, and without a
fault the same state. The fault record is the spec's decision D4 (log 11). -/
def Obligations.ByteSerialFeedingIsEquivalent : Prop :=
  ∀ (s : State) (c : List Byte) (rest : List HostOp), s.fault = none → TakesChunk s c →
    ∃ t u, Host.Core.run core c.length { s with ops := c.map (fun b => .feed [b]) ++ rest } = .next t ∧
      step { s with ops := .feed c :: rest } = .next u ∧
      t.events = u.events ∧ t.fault = u.fault ∧ (u.fault = none → t = u)

/-- R239: after CLEAR, feeding the offending bytes again reproduces the same fault, and no event. The sticky record
and its bytes are the spec's decisions D4 and D9 (log 11). -/
def Obligations.RefeedingReproducesTheFault : Prop :=
  ∀ (s : State) (r : FaultRecord) (rest : List HostOp), s.Inv → s.fault = some r →
    s.ops = .clear :: .feed r.bytes :: rest →
    TakesChunk { s with buf := [] } r.bytes →
    ∃ t, step s = .next t ∧ step t = .next { s with ops := rest, buf := r.bytes }

/-- R102, R235: a first byte, whatever it is, is held and not judged. -/
def Obligations.FirstByteIsNeverJudged : Prop :=
  ∀ (s : State) (x : Byte) (rest : List HostOp), s.fault = none → s.buf = [] →
    s.ops = .feed [x] :: rest → TakesChunk s [x] →
    step s = .next { s with ops := rest, buf := [x] }

/-! ### The machine as a whole -/

/-- R22, R24: every step keeps the invariant: an ACTIVE block waits for bytes, a FAULTED one holds the frame it
recorded. The record and the frozen buffer are the spec's decision D4 (log 10, 11). -/
def Obligations.EveryStepKeepsTheBufferInvariant : Prop :=
  ∀ s t : State, s.Inv → step s = .next t → t.Inv

/-- R22, R36: the invariant holds at reset. -/
def Obligations.ResetMeetsTheBufferInvariant : Prop := State.reset.Inv

/-- R36, with the spec's decision D13 (log 11): the values after reset, and after CLEAR in any state. -/
def Obligations.ResetValues : Prop :=
  State.reset.buf = [] ∧ State.reset.fault = none ∧ State.reset.mode = .active ∧
  ∀ s : State, (clearSession s).buf = [] ∧ (clearSession s).fault = none ∧
    (clearSession s).mode = .active

/-- R178: the decode loop ends, so no step ever stops in the loop's fault, and one FEED delivers at most a third as many
events as there are bytes. -/
def Obligations.DecodeLoopEnds : Prop :=
  (∀ (s : State) (f : Fault), step s ≠ .fault f) ∧
  (∀ (s t : State) (chunk : List Byte) (rest : List HostOp), s.ops = .feed chunk :: rest →
    step s = .next t →
    t.events.length ≤ s.events.length + (s.buf.length + chunk.length) / 3)

/-- R179, R180, R153, with the model's choices of log 7 and log 8: the steps that are refused, exactly. -/
def Obligations.RefusedStepsExactly : Prop :=
  ∀ s : State,
    (step s = .refused .chunkTooLong ↔
      ∃ c rest, s.ops = .feed c :: rest ∧ s.params.maxChunk < c.length) ∧
    (step s = .refused .bufferOverCapacity ↔
      ∃ c rest cap, s.ops = .feed c :: rest ∧ c.length ≤ s.params.maxChunk ∧ s.fault = none ∧
        c ≠ [] ∧ s.params.bufCap = some cap ∧ cap < s.buf.length + c.length) ∧
    (step s = .refused .rawKeyNotTaken ↔
      ∃ c b on rest, s.ops = .encodeLed c (.raw b) on :: rest ∧ s.params.keyInput = .keyCode) ∧
    ∀ m, step s ≠ .refused (.notModelled m)

/-- R180: at the capacity R6 asks for, a FEED the block takes is performed in every state that
meets the invariant, and the pending bytes stay within `4 + MAX_CHUNK`. -/
def Obligations.BufferNeverOverflows : Prop :=
  ∀ (s : State) (chunk : List Byte) (rest : List HostOp), s.params.wf = true → s.Inv →
    s.ops = .feed chunk :: rest → chunk.length ≤ s.params.maxChunk →
    (∃ t, step s = .next t) ∧
    (s.fault = none → (s.buf ++ chunk).length ≤ 4 + s.params.maxChunk)

/-- R6, R13: no operation changes a parameter. -/
def Obligations.ParametersNeverChange : Prop :=
  ∀ s t : State, step s = .next t → t.params = s.params

/-- R6, R181: the form of the consumer changes neither the content nor the order of events, nor anything else. -/
def Obligations.ConsumerFormIsInvisible : Prop :=
  ∀ (s : State) (c : Consumer), step (s.withConsumer c) = mapNext (State.withConsumer c) (step s)

/-- R200, R205, R206: the codes, the spec's own labels (decisions D6, D7, D10; log 11), and the read-out (R28; log
19). -/
def Obligations.StatusCodes : Prop :=
  reasonCode .invalidChannel = 1 ∧ reasonCode .invalidFrameType = 2 ∧
  reasonCode .invalidFieldValue = 3 ∧ reasonCode .unknownMessageClass = 4 ∧
  fieldCode .marker = 1 ∧ fieldCode .low = 2 ∧ fieldCode .high = 3 ∧ fieldCode .event = 4 ∧
  rejectCode .channelOutOfRange = 1 ∧ rejectCode .valueOutOfRange = 2 ∧ rejectCode .unknownKey = 3 ∧
  ∀ s : State, s.readStatus = (s.fault, s.buf)
end

