-- ==== Sys2Proof/Laws/Operands.lean ====
section
/-! SUPPORT. The operand forms undo each other: status and channel, key and byte, value and its two bytes, switch and
event byte. -/

namespace Sys2Proof

theorem statusOk_iff (s : Byte) : statusOk s = true ↔ 0xB0#8 ≤ s ∧ s ≤ 0xB7#8 := by
  simp [statusOk]

theorem statusOf_channelOf : ∀ s : Byte, statusOk s = true → statusOf (channelOf s) = s := by
  decide

theorem statusOk_statusOf : ∀ c : Channel, statusOk (statusOf c) = true := by decide

theorem channelOf_statusOf : ∀ c : Channel, channelOf (statusOf c) = c := by decide

theorem channelOf_val : ∀ s : Byte, statusOk s = true → (channelOf s).val = s.toNat - 0xB0 := by
  decide

theorem valueOf_halves : ∀ v : Byte, valueOf (highOf v) (lowOf v) = v := by decide

theorem lowOf_cases (v : Byte) : lowOf v = 0x00#8 ∨ lowOf v = 0x40#8 := by
  revert v; decide

theorem highOf_le : ∀ v : Byte, highOf v ≤ 0x7F#8 := by decide

theorem highOf_valueOf : ∀ h : Byte, h ≤ 0x7F#8 →
    highOf (valueOf h 0x00#8) = h ∧ highOf (valueOf h 0x40#8) = h := by decide

theorem lowOf_valueOf : ∀ h : Byte,
    lowOf (valueOf h 0x00#8) = 0x00#8 ∧ lowOf (valueOf h 0x40#8) = 0x40#8 := by decide

theorem pressedOf_eventByte (p : Bool) : pressedOf (eventByte p) = some p := by
  cases p <;> rfl

/-- The event sentinels are the two event bytes and no other. -/
theorem eventByte_of_pressedOf {e : Byte} {p : Bool} (h : pressedOf e = some p) :
    eventByte p = e := by
  unfold pressedOf at h
  split at h
  · cases h; simp_all [eventByte]
  · split at h
    · cases h; simp_all [eventByte]
    · cases h

theorem pressedOf_eq_none_iff (e : Byte) :
    pressedOf e = none ↔ e ≠ 0x00#8 ∧ e ≠ 0x7F#8 := by
  unfold pressedOf; split <;> simp_all

theorem channelInRange_iff (c : Int) : channelInRange c = true ↔ 0 ≤ c ∧ c ≤ 7 := by
  simp [channelInRange]

theorem valueInRange_iff (v : Int) : valueInRange v = true ↔ 0 ≤ v ∧ v ≤ 255 := by
  simp [valueInRange]

end Sys2Proof
end

