-- ==== Sys2Proof/Laws/Decode.lean ====
section
/-! SUPPORT. What the decoder's answer says about the bytes it read. -/

namespace Sys2Proof

theorem length_sliderBytes (s v : Byte) : (sliderBytes s v).length = 5 := rfl

theorem length_buttonBytes (s : Byte) (k : KeyCode) (p : Bool) : (buttonBytes s k p).length = 3 :=
  rfl

theorem length_encode (i : Instr) : (encode i).length = i.length := by cases i <;> rfl

theorem length_pos (i : Instr) : 0 < i.length := by cases i <;> simp [Instr.length]

/-- R178: a frame takes at least three bytes. -/
theorem three_le_length (i : Instr) : 3 ≤ i.length := by cases i <;> simp [Instr.length]

theorem event?_isSome_iff (i : Instr) : i.event?.isSome = true ↔ i.direction = .inbound := by
  cases i <;> simp [Instr.event?, Instr.direction]

/-- The channel-button frame kinds, by key byte: the byte is the key's, and the frame kind carries the channel. -/
theorem encode_channelButtonOf {t : Byte} {f : Channel → Bool → Instr}
    (h : channelButtonOf t = some f) (c : Channel) (p : Bool) :
    encode (f c p) = [statusOf c, t, eventByte p] ∧ (f c p).direction = .inbound := by
  unfold channelButtonOf at h
  repeat' (split at h)
  all_goals first | (cases h; done) | (cases h; subst_vars; cases p <;> exact ⟨rfl, rfl⟩)

theorem encode_globalButtonOf {t : Byte} {f : Bool → Instr}
    (h : globalButtonOf t = some f) (p : Bool) :
    encode (f p) = [0xB0#8, t, eventByte p] ∧ (f p).direction = .inbound := by
  unfold globalButtonOf at h
  repeat' (split at h)
  all_goals first | (cases h; done) | (cases h; subst_vars; cases p <;> exact ⟨rfl, rfl⟩)

theorem decodeSlider_frame {s t : Byte} {rest : List Byte} {i : Instr}
    (hs : statusOk s = true) (h : decodeSlider s t rest = .frame i) :
    ∃ tail, s :: t :: rest = encode i ++ tail ∧ i.direction = .inbound := by
  unfold decodeSlider at h
  split at h
  · cases h
  · rename_i ht
    split at h
    · rename_i high marker low tail
      split at h
      · cases h
      · split at h
        · cases h
        · split at h
          · cases h
          · rename_i hm hl hh
            cases h
            have hhigh : high ≤ 0x7F#8 := BitVec.not_lt.mp hh
            have hlow : low = 0x00#8 ∨ low = 0x40#8 := by
              by_contra hn; exact hl (by push Not at hn; exact hn)
            refine ⟨tail, ?_, rfl⟩
            simp only [encode, sliderBytes, statusOf_channelOf s hs]
            obtain rfl | rfl := hlow <;>
              simp_all [highOf_valueOf high hhigh, lowOf_valueOf high]
    · cases h

theorem decodeChannelButton_frame {s t : Byte} {rest : List Byte} {i : Instr}
    (hs : statusOk s = true) (h : decodeChannelButton s t rest = .frame i) :
    ∃ tail, s :: t :: rest = encode i ++ tail ∧ i.direction = .inbound := by
  unfold decodeChannelButton at h
  split at h
  · cases h
  · rename_i f hf
    split at h
    · cases h
    · rename_i e tail
      split at h
      · cases h
      · rename_i p hp
        cases h
        have hk := encode_channelButtonOf hf (channelOf s) p
        exact ⟨tail, by simp [hk.1, statusOf_channelOf s hs, eventByte_of_pressedOf hp], hk.2⟩

theorem decodeGlobalButton_frame {s t : Byte} {rest : List Byte} {i : Instr}
    (hs : statusOk s = true) (h : decodeGlobalButton s t rest = .frame i) :
    ∃ tail, s :: t :: rest = encode i ++ tail ∧ i.direction = .inbound := by
  unfold decodeGlobalButton at h
  split at h
  · cases h
  · rename_i hc
    split at h
    · cases h
    · rename_i f hf
      split at h
      · cases h
      · rename_i e tail
        split at h
        · cases h
        · rename_i p hp
          cases h
          have hk := encode_globalButtonOf hf p
          have hz : s = 0xB0#8 := by
            have := statusOf_channelOf s hs
            rw [not_not.mp hc] at this
            exact this.symm
          exact ⟨tail, by simp [hk.1, hz, eventByte_of_pressedOf hp], hk.2⟩

/-- A frame the decoder answers is inbound, and the buffer begins with exactly its bytes: each frame has one
encoding. -/
theorem decodeFrame_frame {b : List Byte} {i : Instr} (h : decodeFrame b = .frame i) :
    ∃ tail, b = encode i ++ tail ∧ i.direction = .inbound := by
  unfold decodeFrame at h
  split at h
  · split at h
    · rename_i hs
      split at h
      · exact decodeSlider_frame hs h
      · split at h
        · exact decodeChannelButton_frame hs h
        · split at h
          · exact decodeGlobalButton_frame hs h
          · cases h
    · cases h
  · cases h

theorem decodeFrame_frame_event {b : List Byte} {i : Instr} (h : decodeFrame b = .frame i) :
    ∃ e, i.event? = some e := by
  obtain ⟨_, _, hd⟩ := decodeFrame_frame h
  exact Option.isSome_iff_exists.mp ((event?_isSome_iff i).mpr hd)

theorem decodeFrame_nil : decodeFrame [] = .incomplete := rfl

/-- The frame kinds of class 4 are the channel keys' (R106 to R111), for every type byte. -/
theorem channelButtonOf_cases (t : Byte) : (channelButtonOf t = none ∧ channelKeyOf t = none) ∨
    ∃ f k, channelButtonOf t = some f ∧ channelKeyOf t = some k ∧ isChannelKey k = true ∧
      keyByte k = t ∧
      ∀ c p, (f c p).event? = some (.channelButton c k p) ∧ (f c p).length = 3 := by
  unfold channelButtonOf channelKeyOf
  repeat' split
  all_goals first
    | exact .inl ⟨rfl, rfl⟩
    | exact .inr ⟨_, _, rfl, rfl, rfl, Eq.symm ‹_›, fun c p => by cases p <;> exact ⟨rfl, rfl⟩⟩

/-- The frame kinds of class 7 are the global keys' (R112 to R116), for every type byte. -/
theorem globalButtonOf_cases (t : Byte) : (globalButtonOf t = none ∧ globalKeyOf t = none) ∨
    ∃ f k, globalButtonOf t = some f ∧ globalKeyOf t = some k ∧ isChannelKey k = false ∧
      keyByte k = t ∧ ∀ p, (f p).event? = some (.globalButton k p) ∧ (f p).length = 3 := by
  unfold globalButtonOf globalKeyOf
  repeat' split
  all_goals first
    | exact .inl ⟨rfl, rfl⟩
    | exact .inr ⟨_, _, rfl, rfl, rfl, Eq.symm ‹_›, fun p => by cases p <;> exact ⟨rfl, rfl⟩⟩

theorem decodeSlider_append {s t : Byte} {rest : List Byte} (h : decodeSlider s t rest ≠ .incomplete)
    (tail : List Byte) : decodeSlider s t (rest ++ tail) = decodeSlider s t rest := by
  match rest with
  | [] | [_] | [_, _] => simp only [decodeSlider] at h ⊢; split <;> simp_all
  | _ :: _ :: _ :: _ => simp [decodeSlider]

theorem decodeChannelButton_append {s t : Byte} {rest : List Byte}
    (h : decodeChannelButton s t rest ≠ .incomplete) (tail : List Byte) :
    decodeChannelButton s t (rest ++ tail) = decodeChannelButton s t rest := by
  match rest with
  | [] => simp only [decodeChannelButton] at h ⊢; split <;> simp_all
  | _ :: _ => simp [decodeChannelButton]

theorem decodeGlobalButton_append {s t : Byte} {rest : List Byte}
    (h : decodeGlobalButton s t rest ≠ .incomplete) (tail : List Byte) :
    decodeGlobalButton s t (rest ++ tail) = decodeGlobalButton s t rest := by
  match rest with
  | [] => simp only [decodeGlobalButton] at h ⊢; (repeat' split) <;> simp_all
  | _ :: _ => simp [decodeGlobalButton]

/-- Once the decoder has judged a buffer, bytes behind it make no difference (R118). -/
theorem decodeFrame_append {b : List Byte} (h : decodeFrame b ≠ .incomplete) (tail : List Byte) :
    decodeFrame (b ++ tail) = decodeFrame b := by
  match b with
  | [] => exact absurd rfl h
  | [_] => exact absurd rfl h
  | s :: t :: rest =>
    simp only [List.cons_append, decodeFrame] at h ⊢
    split_ifs at h ⊢
    · exact decodeSlider_append h tail
    · exact decodeChannelButton_append h tail
    · exact decodeGlobalButton_append h tail
    · rfl
    · rfl

end Sys2Proof
end

