-- ==== Sys2Proof/Laws/Encoder.lean ====
section
/-! SUPPORT. What the encoder's functions answer on operands in range: the bytes of the instruction. -/

namespace Sys2Proof.Machine

/-- An integer channel in range has the status byte of a channel (R61). -/
theorem statusOfInt_spec {c : Int} (h : channelInRange c = true) :
    ∃ ch : Channel, (ch.val : Int) = c ∧ statusOfInt c = statusOf ch ∧
      ((statusOfInt c).toNat : Int) = 0xB0 + c := by
  obtain ⟨h0, h7⟩ := (channelInRange_iff c).mp h
  interval_cases c <;> decide

/-- An integer value in range is its byte. -/
theorem toNat_ofInt_value {v : Int} (h : valueInRange v = true) :
    ((BitVec.ofInt 8 v).toNat : Int) = v := by
  obtain ⟨h0, h1⟩ := (valueInRange_iff v).mp h
  simp [BitVec.toNat_ofInt]; omega

theorem encodeSlider_ok {c v : Int} (hc : channelInRange c = true) (hv : valueInRange v = true) :
    encodeSlider c v = .ok (encode (.setslider c v)) := by
  simp [encodeSlider, hc, hv, encode, sliderBytes, statusOfInt, sliderType, highOf, lowOf, markerByte]

theorem encodeLed_ok {c : Int} (hc : channelInRange c = true) (k : KeyCode) (on : Bool) :
    encodeLed c k on = .ok (encode (ledInstr k on c)) := by
  cases k <;> cases on <;>
    simp [encodeLed, hc, ledInstr, encode, buttonBytes, statusOfInt, eventByte]

end Sys2Proof.Machine
end

