-- ==== Sys2Proof/Laws/State.lean ====
section
/-! SUPPORT. What each shared operation does to each field of the state, and the mode it leaves. -/

namespace Sys2Proof.Machine

/-! Accepting a frame, in each mode. -/

theorem acceptFrame_active {s : State} (h : s.fault = none) (e : ControlEvent) (n : Nat) :
    acceptFrame e n s = { s with buf := s.buf.drop n, events := s.events ++ [e] } := by
  simp [acceptFrame, h]

theorem acceptFrame_faulted {s : State} {r : FaultRecord} (h : s.fault = some r) (e : ControlEvent)
    (n : Nat) : acceptFrame e n s = s := by
  simp [acceptFrame, h]

@[simp] theorem acceptFrame_fault (e : ControlEvent) (n : Nat) (s : State) : (acceptFrame e n s).fault = s.fault := by
  unfold acceptFrame; split <;> rfl

@[simp] theorem acceptFrame_params (e : ControlEvent) (n : Nat) (s : State) : (acceptFrame e n s).params = s.params := by
  unfold acceptFrame; split <;> rfl

@[simp] theorem acceptFrame_ops (e : ControlEvent) (n : Nat) (s : State) : (acceptFrame e n s).ops = s.ops := by
  unfold acceptFrame; split <;> rfl

@[simp] theorem acceptFrame_replies (e : ControlEvent) (n : Nat) (s : State) : (acceptFrame e n s).replies = s.replies := by
  unfold acceptFrame; split <;> rfl

@[simp] theorem enterFault_buf (r : FaultRecord) (s : State) : (enterFault r s).buf = s.buf := rfl

@[simp] theorem enterFault_fault (r : FaultRecord) (s : State) : (enterFault r s).fault = some r := rfl

@[simp] theorem enterFault_params (r : FaultRecord) (s : State) : (enterFault r s).params = s.params := rfl

@[simp] theorem enterFault_ops (r : FaultRecord) (s : State) : (enterFault r s).ops = s.ops := rfl

@[simp] theorem enterFault_events (r : FaultRecord) (s : State) : (enterFault r s).events = s.events := rfl

@[simp] theorem enterFault_replies (r : FaultRecord) (s : State) : (enterFault r s).replies = s.replies := rfl

@[simp] theorem clearSession_buf (s : State) : (clearSession s).buf = [] := rfl

@[simp] theorem clearSession_fault (s : State) : (clearSession s).fault = none := rfl

@[simp] theorem clearSession_params (s : State) : (clearSession s).params = s.params := rfl

@[simp] theorem clearSession_ops (s : State) : (clearSession s).ops = s.ops := rfl

@[simp] theorem clearSession_events (s : State) : (clearSession s).events = s.events := rfl

@[simp] theorem clearSession_replies (s : State) : (clearSession s).replies = s.replies := rfl

@[simp] theorem reply_buf (o : EncodeOutcome) (s : State) : (reply o s).buf = s.buf := rfl

@[simp] theorem reply_fault (o : EncodeOutcome) (s : State) : (reply o s).fault = s.fault := rfl

@[simp] theorem reply_params (o : EncodeOutcome) (s : State) : (reply o s).params = s.params := rfl

@[simp] theorem reply_ops (o : EncodeOutcome) (s : State) : (reply o s).ops = s.ops := rfl

@[simp] theorem reply_events (o : EncodeOutcome) (s : State) : (reply o s).events = s.events := rfl

@[simp] theorem reply_replies (o : EncodeOutcome) (s : State) : (reply o s).replies = s.replies ++ [o] := rfl

@[simp] theorem appendChunk_buf (c : List Byte) (s : State) : (appendChunk c s).buf = s.buf ++ c := rfl

@[simp] theorem appendChunk_fault (c : List Byte) (s : State) : (appendChunk c s).fault = s.fault := rfl

@[simp] theorem appendChunk_params (c : List Byte) (s : State) : (appendChunk c s).params = s.params := rfl

@[simp] theorem appendChunk_ops (c : List Byte) (s : State) : (appendChunk c s).ops = s.ops := rfl

@[simp] theorem appendChunk_events (c : List Byte) (s : State) : (appendChunk c s).events = s.events := rfl

@[simp] theorem appendChunk_replies (c : List Byte) (s : State) : (appendChunk c s).replies = s.replies := rfl

@[simp] theorem withConsumer_buf (c : Consumer) (s : State) : (s.withConsumer c).buf = s.buf := rfl

@[simp] theorem withConsumer_fault (c : Consumer) (s : State) : (s.withConsumer c).fault = s.fault := rfl

@[simp] theorem withConsumer_ops (c : Consumer) (s : State) : (s.withConsumer c).ops = s.ops := rfl

@[simp] theorem withConsumer_events (c : Consumer) (s : State) : (s.withConsumer c).events = s.events := rfl

@[simp] theorem withConsumer_replies (c : Consumer) (s : State) : (s.withConsumer c).replies = s.replies := rfl

@[simp] theorem withReplies_buf (l : List EncodeOutcome) (s : State) : (s.withReplies l).buf = s.buf := rfl

@[simp] theorem withReplies_fault (l : List EncodeOutcome) (s : State) : (s.withReplies l).fault = s.fault := rfl

@[simp] theorem withReplies_params (l : List EncodeOutcome) (s : State) : (s.withReplies l).params = s.params := rfl

@[simp] theorem withReplies_ops (l : List EncodeOutcome) (s : State) : (s.withReplies l).ops = s.ops := rfl

@[simp] theorem withReplies_events (l : List EncodeOutcome) (s : State) : (s.withReplies l).events = s.events := rfl

@[simp] theorem withReplies_replies (l : List EncodeOutcome) (s : State) : (s.withReplies l).replies = l := rfl

@[simp] theorem withDecoder_buf (b : List Byte) (f : Option FaultRecord) (v : List ControlEvent) (s : State) : (s.withDecoder b f v).buf = b := rfl

@[simp] theorem withDecoder_fault (b : List Byte) (f : Option FaultRecord) (v : List ControlEvent) (s : State) : (s.withDecoder b f v).fault = f := rfl

@[simp] theorem withDecoder_params (b : List Byte) (f : Option FaultRecord) (v : List ControlEvent) (s : State) : (s.withDecoder b f v).params = s.params := rfl

@[simp] theorem withDecoder_ops (b : List Byte) (f : Option FaultRecord) (v : List ControlEvent) (s : State) : (s.withDecoder b f v).ops = s.ops := rfl

@[simp] theorem withDecoder_events (b : List Byte) (f : Option FaultRecord) (v : List ControlEvent) (s : State) : (s.withDecoder b f v).events = v := rfl

@[simp] theorem withDecoder_replies (b : List Byte) (f : Option FaultRecord) (v : List ControlEvent) (s : State) : (s.withDecoder b f v).replies = s.replies := rfl

theorem mode_active_iff (s : State) : s.mode = .active ↔ s.fault = none := by
  unfold State.mode; split <;> simp_all

theorem mode_faulted_iff (s : State) : s.mode = .faulted ↔ ∃ r, s.fault = some r := by
  unfold State.mode; split <;> simp_all

end Sys2Proof.Machine
end

