-- ==== Sys2Proof/Laws/Exec.lean ====
section
/-! SUPPORT. The two things an instruction's meaning can do: accept an inbound frame, or return an encoder outcome. -/

namespace Sys2Proof.Machine

/-- An inbound frame kind's meaning reports its event and consumes its length. -/
theorem exec_of_event {i : Instr} {e : ControlEvent} (h : i.event? = some e) (s : State) :
    exec i s = .next (acceptFrame e i.length s) := by
  cases i <;> simp only [Instr.event?, Option.some.injEq, reduceCtorEq] at h <;> subst h <;> rfl

/-- An outbound frame kind's meaning is one reply, whatever the state. -/
theorem exec_of_outbound {i : Instr} (h : i.direction = .outbound) :
    ∃ o, ∀ s, exec i s = .next (reply o s) := by
  cases i <;> first | (cases h; done) | exact ⟨_, fun _ => rfl⟩

/-- The LED frame kinds share the encoder's function. -/
theorem exec_ledInstr (k : KeyCode) (on : Bool) (c : Int) (s : State) :
    exec (ledInstr k on c) s = .next (reply (encodeLed c k on) s) := by
  cases k <;> cases on <;> rfl

theorem exec_setslider (c v : Int) (s : State) :
    exec (.setslider c v) s = .next (reply (encodeSlider c v) s) := rfl

end Sys2Proof.Machine
end

