-- ==== Sys2Proof/Laws/PerInstr.lean ====
section
/-! SUPPORT. The statement made of every instruction as syntax: its bytes select its row of the opcode table (R77) and
have its length (R63). -/

namespace Sys2Proof

/-- The slider layout selects the slider row's pattern, for every status byte in range and every value (R79). -/
theorem slider_selects (d : Direction) (s v : Byte) (hs : s &&& 0xF8#8 = 0xB0#8) :
    OpcodeRow.selects ⟨d, 5, 0xB007002700, 0xF8FF80FFBF⟩ (sliderBytes s v) = true := by
  have hv : highOf v &&& 0x80#8 = 0x00#8 ∧ lowOf v &&& 0xBF#8 = 0x00#8 := by
    revert v; decide
  have hm : wordBytes 5 0xF8FF80FFBF = [0xF8#8, 0xFF#8, 0x80#8, 0xFF#8, 0xBF#8] := by decide
  have hp : wordBytes 5 0xB007002700 = [0xB0#8, 0x07#8, 0x00#8, 0x27#8, 0x00#8] := by decide
  have ht : sliderType &&& 0xFF#8 = 0x07#8 ∧ markerByte &&& 0xFF#8 = 0x27#8 := by decide
  simp [OpcodeRow.selects, sliderBytes, matchesUnder, hs, hv, hm, hp, ht]

/-- A button layout selects a row that fixes its key and event bytes and the high five bits of its status byte. -/
theorem button_selects (d : Direction) (s : Byte) (k : KeyCode) (p : Bool) (w : Nat)
    (hs : s &&& 0xF8#8 = 0xB0#8) (hw : wordBytes 3 w = [0xB0#8, keyByte k, eventByte p]) :
    OpcodeRow.selects ⟨d, 3, w, 0xF8FFFF⟩ (buttonBytes s k p) = true := by
  have hm : wordBytes 3 0xF8FFFF = [0xF8#8, 0xFF#8, 0xFF#8] := by decide
  have hf : ∀ x : Byte, x &&& 0xFF#8 = x := by decide
  simp [OpcodeRow.selects, buttonBytes, matchesUnder, hs, hm, hw, hf]

theorem statusOf_masked : ∀ c : Channel, statusOf c &&& 0xF8#8 = 0xB0#8 := by decide

theorem statusOfInt_masked {c : Int} (h : channelInRange c = true) :
    statusOfInt c &&& 0xF8#8 = 0xB0#8 := by
  simp only [channelInRange, Bool.and_eq_true, decide_eq_true_eq] at h
  obtain ⟨h0, h7⟩ := h
  interval_cases c <;> decide

namespace Laws.FrameRow

/-- A well-formed instruction's bytes have its length, and select its row of the opcode table. -/
def Statement (i : Instr) : Prop :=
  WellFormed i → (encode i).length = i.row.length ∧ i.row.selects (encode i) = true

theorem slider (c : Channel) (v : Byte) : Statement (.slider c v) :=
  fun _ => ⟨rfl, slider_selects _ _ _ (statusOf_masked c)⟩

theorem chbtnMutePress (c : Channel) : Statement (.chbtnMutePress c) :=
  fun _ => ⟨rfl, button_selects _ _ _ _ _ (statusOf_masked c) (by decide)⟩

theorem chbtnMuteRelease (c : Channel) : Statement (.chbtnMuteRelease c) :=
  fun _ => ⟨rfl, button_selects _ _ _ _ _ (statusOf_masked c) (by decide)⟩

theorem chbtnSoloPress (c : Channel) : Statement (.chbtnSoloPress c) :=
  fun _ => ⟨rfl, button_selects _ _ _ _ _ (statusOf_masked c) (by decide)⟩

theorem chbtnSoloRelease (c : Channel) : Statement (.chbtnSoloRelease c) :=
  fun _ => ⟨rfl, button_selects _ _ _ _ _ (statusOf_masked c) (by decide)⟩

theorem chbtnGangPress (c : Channel) : Statement (.chbtnGangPress c) :=
  fun _ => ⟨rfl, button_selects _ _ _ _ _ (statusOf_masked c) (by decide)⟩

theorem chbtnGangRelease (c : Channel) : Statement (.chbtnGangRelease c) :=
  fun _ => ⟨rfl, button_selects _ _ _ _ _ (statusOf_masked c) (by decide)⟩

theorem chbtnPanPress (c : Channel) : Statement (.chbtnPanPress c) :=
  fun _ => ⟨rfl, button_selects _ _ _ _ _ (statusOf_masked c) (by decide)⟩

theorem chbtnPanRelease (c : Channel) : Statement (.chbtnPanRelease c) :=
  fun _ => ⟨rfl, button_selects _ _ _ _ _ (statusOf_masked c) (by decide)⟩

theorem chbtnSliderPress (c : Channel) : Statement (.chbtnSliderPress c) :=
  fun _ => ⟨rfl, button_selects _ _ _ _ _ (statusOf_masked c) (by decide)⟩

theorem chbtnSliderRelease (c : Channel) : Statement (.chbtnSliderRelease c) :=
  fun _ => ⟨rfl, button_selects _ _ _ _ _ (statusOf_masked c) (by decide)⟩

theorem gbtnClearPress : Statement .gbtnClearPress := fun _ => ⟨rfl, by decide⟩

theorem gbtnClearRelease : Statement .gbtnClearRelease := fun _ => ⟨rfl, by decide⟩

theorem gbtnWritePress : Statement .gbtnWritePress := fun _ => ⟨rfl, by decide⟩

theorem gbtnWriteRelease : Statement .gbtnWriteRelease := fun _ => ⟨rfl, by decide⟩

theorem gbtnShowPress : Statement .gbtnShowPress := fun _ => ⟨rfl, by decide⟩

theorem gbtnShowRelease : Statement .gbtnShowRelease := fun _ => ⟨rfl, by decide⟩

theorem gbtnMasterPress : Statement .gbtnMasterPress := fun _ => ⟨rfl, by decide⟩

theorem gbtnMasterRelease : Statement .gbtnMasterRelease := fun _ => ⟨rfl, by decide⟩

theorem setslider (c v : Int) : Statement (.setslider c v) := fun h =>
  ⟨rfl, slider_selects _ _ _ (statusOfInt_masked (by simp_all [WellFormed, Instr.wf]))⟩

theorem setledMuteOn (c : Int) : Statement (.setledMuteOn c) :=
  fun h => ⟨rfl, button_selects _ _ _ _ _ (statusOfInt_masked h) (by decide)⟩

theorem setledMuteOff (c : Int) : Statement (.setledMuteOff c) :=
  fun h => ⟨rfl, button_selects _ _ _ _ _ (statusOfInt_masked h) (by decide)⟩

theorem setledSoloOn (c : Int) : Statement (.setledSoloOn c) :=
  fun h => ⟨rfl, button_selects _ _ _ _ _ (statusOfInt_masked h) (by decide)⟩

theorem setledSoloOff (c : Int) : Statement (.setledSoloOff c) :=
  fun h => ⟨rfl, button_selects _ _ _ _ _ (statusOfInt_masked h) (by decide)⟩

theorem setledGangOn (c : Int) : Statement (.setledGangOn c) :=
  fun h => ⟨rfl, button_selects _ _ _ _ _ (statusOfInt_masked h) (by decide)⟩

theorem setledGangOff (c : Int) : Statement (.setledGangOff c) :=
  fun h => ⟨rfl, button_selects _ _ _ _ _ (statusOfInt_masked h) (by decide)⟩

theorem setledPanOn (c : Int) : Statement (.setledPanOn c) :=
  fun h => ⟨rfl, button_selects _ _ _ _ _ (statusOfInt_masked h) (by decide)⟩

theorem setledPanOff (c : Int) : Statement (.setledPanOff c) :=
  fun h => ⟨rfl, button_selects _ _ _ _ _ (statusOfInt_masked h) (by decide)⟩

theorem setledSliderOn (c : Int) : Statement (.setledSliderOn c) :=
  fun h => ⟨rfl, button_selects _ _ _ _ _ (statusOfInt_masked h) (by decide)⟩

theorem setledSliderOff (c : Int) : Statement (.setledSliderOff c) :=
  fun h => ⟨rfl, button_selects _ _ _ _ _ (statusOfInt_masked h) (by decide)⟩

theorem setledClearOn (c : Int) : Statement (.setledClearOn c) :=
  fun h => ⟨rfl, button_selects _ _ _ _ _ (statusOfInt_masked h) (by decide)⟩

theorem setledClearOff (c : Int) : Statement (.setledClearOff c) :=
  fun h => ⟨rfl, button_selects _ _ _ _ _ (statusOfInt_masked h) (by decide)⟩

theorem setledWriteOn (c : Int) : Statement (.setledWriteOn c) :=
  fun h => ⟨rfl, button_selects _ _ _ _ _ (statusOfInt_masked h) (by decide)⟩

theorem setledWriteOff (c : Int) : Statement (.setledWriteOff c) :=
  fun h => ⟨rfl, button_selects _ _ _ _ _ (statusOfInt_masked h) (by decide)⟩

theorem setledShowOn (c : Int) : Statement (.setledShowOn c) :=
  fun h => ⟨rfl, button_selects _ _ _ _ _ (statusOfInt_masked h) (by decide)⟩

theorem setledShowOff (c : Int) : Statement (.setledShowOff c) :=
  fun h => ⟨rfl, button_selects _ _ _ _ _ (statusOfInt_masked h) (by decide)⟩

theorem setledMasterOn (c : Int) : Statement (.setledMasterOn c) :=
  fun h => ⟨rfl, button_selects _ _ _ _ _ (statusOfInt_masked h) (by decide)⟩

theorem setledMasterOff (c : Int) : Statement (.setledMasterOff c) :=
  fun h => ⟨rfl, button_selects _ _ _ _ _ (statusOfInt_masked h) (by decide)⟩

end Laws.FrameRow

end Sys2Proof
end

