-- ==== Sys2Proof/Laws/Stream.lean ====
section
/-! SUPPORT. The decode loop and the interface operations: the loop's equations, what it can do in all, and the
inversion of a step. -/

namespace Sys2Proof.Machine

theorem drainLoop_succ_frame {n : Nat} {s : State} {i : Instr} (ha : s.fault = none)
    (h : decodeFrame s.buf = .frame i) :
    ∃ e, i.event? = some e ∧
      drainLoop (n + 1) s
        = drainLoop n { s with buf := s.buf.drop i.length, events := s.events ++ [e] } := by
  obtain ⟨e, he⟩ := decodeFrame_frame_event h
  exact ⟨e, he, by simp [drainLoop, h, exec_of_event he, acceptFrame_active ha]⟩

theorem drop_length_lt {b : List Byte} {i : Instr} (h : decodeFrame b = .frame i) :
    (b.drop i.length).length < b.length := by
  obtain ⟨tail, hb, _⟩ := decodeFrame_frame h
  have := length_pos i
  have := length_encode i
  subst hb; simp; omega

/-- Any bound above the number of pending bytes gives the same result. -/
theorem drainLoop_bound {n m : Nat} {s : State} (ha : s.fault = none)
    (hn : s.buf.length < n) (hm : s.buf.length < m) : drainLoop n s = drainLoop m s := by
  induction n generalizing m s with
  | zero => omega
  | succ n ih =>
    obtain _ | m := m
    · omega
    · cases h : decodeFrame s.buf with
      | incomplete => simp [drainLoop, h]
      | malformed r => simp [drainLoop, h]
      | frame i =>
        obtain ⟨e, he, h1⟩ := drainLoop_succ_frame (n := n) ha h
        obtain ⟨e', he', h2⟩ := drainLoop_succ_frame (n := m) ha h
        obtain rfl : e = e' := by simpa [he] using he'
        have := drop_length_lt h
        rw [h1, h2]
        exact ih ha (by simp only; omega) (by simp only; omega)

theorem drain_incomplete {s : State} (h : decodeFrame s.buf = .incomplete) : drain s = .next s := by
  simp [drain, drainLoop, h]

theorem drain_malformed {s : State} {r : FaultRecord} (h : decodeFrame s.buf = .malformed r) :
    drain s = .next (enterFault r s) := by
  simp [drain, drainLoop, h]

/-- R170, Parsed arm: the loop accepts the frame and goes on with the rest. -/
theorem drain_frame {s : State} {i : Instr} (ha : s.fault = none)
    (h : decodeFrame s.buf = .frame i) :
    ∃ e, i.event? = some e ∧
      drain s = drain { s with buf := s.buf.drop i.length, events := s.events ++ [e] } := by
  obtain ⟨e, he, h1⟩ := drainLoop_succ_frame (n := s.buf.length) ha h
  have := drop_length_lt h
  exact ⟨e, he, by unfold drain; rw [h1]; exact drainLoop_bound ha (by simp only; omega) (by simp)⟩

/-- Everything the decode loop can do in an ACTIVE state: it consumes whole frames from the front, reports their
events, and stops at bytes that are too few or malformed, in the latter case with the fault recorded. -/
theorem drain_spec {s : State} (ha : s.fault = none) :
    ∃ (is : List Instr) (b : List Byte) (f : Option FaultRecord),
      (∀ i ∈ is, i.direction = .inbound) ∧ s.buf = is.flatMap encode ++ b ∧
      drain s = .next { s with buf := b, fault := f, events := s.events ++ is.filterMap Instr.event? } ∧
      decodeFrame b = (match f with | none => .incomplete | some r => .malformed r) := by
  induction hn : s.buf.length using Nat.strong_induction_on generalizing s with
  | _ n ih =>
    cases h : decodeFrame s.buf with
    | incomplete => exact ⟨[], s.buf, none, by simp, by simp, by simp [drain_incomplete h, ← ha], h⟩
    | malformed r =>
      exact ⟨[], s.buf, some r, by simp, by simp, by simp [drain_malformed h, enterFault], h⟩
    | frame i =>
      obtain ⟨e, he, hd⟩ := drain_frame ha h
      obtain ⟨tail, hb, hdir⟩ := decodeFrame_frame h
      obtain ⟨is, b, f, h1, h2, h3, h4⟩ :=
        ih (s.buf.drop i.length).length (by have := drop_length_lt h; omega)
          (s := { s with buf := s.buf.drop i.length, events := s.events ++ [e] }) ha rfl
      refine ⟨i :: is, b, f, ?_, ?_, ?_, h4⟩
      · rintro j (_ | ⟨_, hj⟩)
        · exact hdir
        · exact h1 j hj
      · have : s.buf.drop i.length = tail := by rw [hb, ← length_encode i]; simp
        simp only [this] at h2
        simp [hb, h2]
      · rw [hd, h3]; simp [he]

theorem fits_mono {p : Params} {m n : Nat} (h : fits p n = true) (hmn : m ≤ n) : fits p m = true := by
  unfold fits at *; split <;> simp_all; omega

/-- Everything a FEED can do when it answers. -/
theorem runFeed_next {c : List Byte} {s t : State} (h : runFeed c s = .next t) :
    c.length ≤ s.params.maxChunk ∧
      ((∃ r, s.fault = some r) ∧ t = s ∨ s.fault = none ∧ c = [] ∧ t = s ∨
        s.fault = none ∧ c ≠ [] ∧ TakesChunk s c ∧ drain (appendChunk c s) = .next t) := by
  unfold runFeed at h
  split at h
  · cases h
  · rename_i hl
    have hl : c.length ≤ s.params.maxChunk := by omega
    refine ⟨hl, ?_⟩
    split at h
    · rename_i r hr
      cases h
      exact .inl ⟨⟨r, hr⟩, rfl⟩
    · rename_i hr
      split at h
      · cases h
        exact .inr (.inl ⟨hr, by simp_all, rfl⟩)
      · split at h
        · exact .inr (.inr ⟨hr, by simp_all, ⟨hl, by assumption⟩, h⟩)
        · cases h

/-- A FEED that decodes. -/
theorem runFeed_active {c : List Byte} {s : State} (ha : s.fault = none) (hc : c ≠ [])
    (hk : TakesChunk s c) : runFeed c s = drain (appendChunk c s) := by
  obtain ⟨h1, h2⟩ := hk
  simp [runFeed, ha, h2, hc, Nat.not_lt.mpr h1]

theorem runEncodeSlider_eq (c v : Int) (s : State) :
    runEncodeSlider c v s = .next (reply (encodeSlider c v) s) := rfl

theorem runEncodeLed_code (c : Int) (k : KeyCode) (on : Bool) (s : State) :
    runEncodeLed c (.code k) on s = .next (reply (encodeLed c k on) s) := exec_ledInstr k on c s

/-- Everything an ENCODE_LED can do when it answers. -/
theorem runEncodeLed_next {c : Int} {k : KeyOperand} {on : Bool} {s t : State}
    (h : runEncodeLed c k on s = .next t) : ∃ o, t = reply o s := by
  unfold runEncodeLed at h
  repeat' (split at h)
  all_goals first
    | (cases h; done)
    | (rw [exec_ledInstr] at h; cases h; exact ⟨_, rfl⟩)
    | (cases h; exact ⟨_, rfl⟩)

/-- Everything a step can do when it answers: hold (no operation issued), FEED, CLEAR, or reply. -/
theorem step_next {s t : State} (h : step s = .next t) :
    (s.ops = [] ∧ t = s) ∨
    (∃ c rest, s.ops = .feed c :: rest ∧ runFeed c { s with ops := rest } = .next t) ∨
    (∃ rest, s.ops = .clear :: rest ∧ t = clearSession { s with ops := rest }) ∨
    (∃ op rest o, s.ops = op :: rest ∧ (∀ c, op ≠ .feed c) ∧ op ≠ .clear ∧
      t = reply o { s with ops := rest }) := by
  unfold step runNext at h
  split at h
  · cases h
    exact .inl ⟨by assumption, rfl⟩
  · rename_i op rest hops
    cases op with
    | feed c => exact .inr (.inl ⟨c, rest, hops, h⟩)
    | clear => cases h; exact .inr (.inr (.inl ⟨rest, hops, rfl⟩))
    | encodeSlider c v =>
      cases h
      exact .inr (.inr (.inr ⟨_, rest, _, hops, by simp, by simp, rfl⟩))
    | encodeLed c k on =>
      obtain ⟨o, rfl⟩ := runEncodeLed_next h
      exact .inr (.inr (.inr ⟨_, rest, o, hops, by simp, by simp, rfl⟩))

theorem step_feed {s : State} {c : List Byte} {rest : List HostOp} (h : s.ops = .feed c :: rest) :
    step s = runFeed c { s with ops := rest } := by
  simp [step, runNext, h, runOp]

/-- The step of a FEED that decodes is the decode loop on the pending bytes and the chunk. -/
theorem step_feed_active {s : State} {c : List Byte} {rest : List HostOp}
    (h : s.ops = .feed c :: rest) (ha : s.fault = none) (hc : c ≠ []) (hk : TakesChunk s c) :
    step s = drain { s with ops := rest, buf := s.buf ++ c } := by
  rw [step_feed h]
  exact runFeed_active (s := { s with ops := rest }) ha hc hk

/-- The decode loop commutes with every view of the state that keeps the buffer and commutes with accepting a frame and
entering a fault. -/
theorem drainLoop_commutes {g : State → State} (hb : ∀ s, (g s).buf = s.buf)
    (ha : ∀ e n s, acceptFrame e n (g s) = g (acceptFrame e n s))
    (hf : ∀ r s, enterFault r (g s) = g (enterFault r s)) (n : Nat) (s : State) :
    drainLoop n (g s) = mapNext g (drainLoop n s) := by
  induction n generalizing s with
  | zero => rfl
  | succ n ih =>
    simp only [drainLoop, hb]
    cases h : decodeFrame s.buf with
    | incomplete => rfl
    | malformed r => simp [mapNext, hf]
    | frame i =>
      obtain ⟨e, he⟩ := decodeFrame_frame_event h
      simp only [exec_of_event he, ha, ih]

theorem drain_commutes {g : State → State} (hb : ∀ s, (g s).buf = s.buf)
    (ha : ∀ e n s, acceptFrame e n (g s) = g (acceptFrame e n s))
    (hf : ∀ r s, enterFault r (g s) = g (enterFault r s)) (s : State) :
    drain (g s) = mapNext g (drain s) := by
  unfold drain; rw [hb]; exact drainLoop_commutes hb ha hf _ s

/-- The operations still waiting do not touch the decode loop. -/
theorem drain_withOps (ops : List HostOp) (s : State) :
    drain { s with ops := ops } = mapNext (fun s => { s with ops := ops }) (drain s) :=
  drain_commutes (g := fun s => { s with ops := ops }) (fun _ => rfl)
    (fun e n s => by cases h : s.fault <;> simp [acceptFrame, h]) (fun _ _ => rfl) s

/-- A FEED commutes with every view that keeps what it reads and commutes with what it does. -/
theorem runFeed_commutes {g : State → State} (hb : ∀ s, (g s).buf = s.buf)
    (hfault : ∀ s, (g s).fault = s.fault) (hmax : ∀ s, (g s).params.maxChunk = s.params.maxChunk)
    (hcap : ∀ s, (g s).params.bufCap = s.params.bufCap)
    (happ : ∀ c s, appendChunk c (g s) = g (appendChunk c s))
    (ha : ∀ e n s, acceptFrame e n (g s) = g (acceptFrame e n s))
    (hf : ∀ r s, enterFault r (g s) = g (enterFault r s)) (c : List Byte) (s : State) :
    runFeed c (g s) = mapNext g (runFeed c s) := by
  have hfits (n : Nat) : fits (g s).params n = fits s.params n := by simp [fits, hcap]
  unfold runFeed
  rw [hfault, hmax, hb, hfits, happ, drain_commutes hb ha hf]
  split
  · rfl
  · cases s.fault with
    | some r => rfl
    | none =>
      simp only
      split
      · rfl
      · split <;> rfl

end Sys2Proof.Machine
end

