-- ==== Sys2Proof/Tests/Slice0.lean ====
section
/-! SUPPORT. The model's own tests. Expected results come from spec/95_test_vectors.md (named W<n>, V-<id>, P<n>) or
from the encodings of spec/30_encoding.md, written out by hand; `witness_<Name>` meets the hypotheses of the statement
`Obligations.<Name>`, clause by clause. -/

namespace Sys2Proof.Tests

open Sys2Proof.Machine

/-- The state a step answers, if it answers one. -/
def after (o : Host.Outcome State Fault Refusal) : Option State :=
  match o with
  | .next s => some s
  | .fault _ => none
  | .refused _ => none

/-- The refusal a step ends in, if it ends in one. -/
def refusal (o : Host.Outcome State Fault Refusal) : Option Refusal :=
  match o with
  | .next _ => none
  | .fault _ => none
  | .refused r => some r

/-- A block at reset with these operations issued. -/
def session (ops : List HostOp) : State := { State.reset with ops := ops }

/-- A block at reset with these pending bytes, fault and operations. -/
def pending (buf : List Byte) (fault : Option FaultRecord) (ops : List HostOp) : State :=
  { State.reset with buf := buf, fault := fault, ops := ops }

/-- The fault of V-A9. -/
def classFault : FaultRecord := ⟨.unknownMessageClass, none, [0xB0#8, 0x50#8]⟩

/-! ### Well-formedness refuses what R141 and R142 call out of range -/

theorem test_wf_channel_eight : ¬ WellFormed (.setslider 8 0) := by decide
theorem test_wf_channel_negative : ¬ WellFormed (.setslider (-1) 0) := by decide
theorem test_wf_value_256 : ¬ WellFormed (.setslider 0 256) := by decide
theorem test_wf_value_negative : ¬ WellFormed (.setslider 0 (-1)) := by decide
theorem test_wf_bounds : WellFormed (.setslider 7 255) ∧ WellFormed (.setslider 0 0) := by decide
theorem test_wf_mute_led : ¬ WellFormed (.setledMuteOn 8) ∧ ¬ WellFormed (.setledMuteOff (-1)) := by
  decide
theorem test_wf_solo_led : ¬ WellFormed (.setledSoloOn 8) ∧ ¬ WellFormed (.setledSoloOff (-1)) := by
  decide
theorem test_wf_gang_led : ¬ WellFormed (.setledGangOn 8) ∧ ¬ WellFormed (.setledGangOff (-1)) := by
  decide
theorem test_wf_pan_led : ¬ WellFormed (.setledPanOn 8) ∧ ¬ WellFormed (.setledPanOff (-1)) := by
  decide
theorem test_wf_slider_led :
    ¬ WellFormed (.setledSliderOn 8) ∧ ¬ WellFormed (.setledSliderOff (-1)) := by decide
theorem test_wf_clear_led :
    ¬ WellFormed (.setledClearOn 8) ∧ ¬ WellFormed (.setledClearOff (-1)) := by decide
theorem test_wf_write_led :
    ¬ WellFormed (.setledWriteOn 8) ∧ ¬ WellFormed (.setledWriteOff (-1)) := by decide
theorem test_wf_show_led : ¬ WellFormed (.setledShowOn 8) ∧ ¬ WellFormed (.setledShowOff (-1)) := by
  decide
theorem test_wf_master_led :
    ¬ WellFormed (.setledMasterOn 8) ∧ ¬ WellFormed (.setledMasterOff (-1)) := by decide
theorem test_params_wf : Params.atReset.wf = true ∧
    ({ Params.atReset with maxChunk := 0 } : Params).wf = false ∧
    ({ Params.atReset with bufCap := some 67 } : Params).wf = false ∧
    ({ Params.atReset with bufCap := some 68 } : Params).wf = true := by decide

/-! ### Decoding: the words of the spec's encodings, one for every frame kind -/

/-- V-SL7, V-S13; the pattern of R64. -/
theorem test_decode_slider :
    decodeFrame [0xB0#8, 0x07#8, 0x0A#8, 0x27#8, 0x40#8] = .frame (.slider 0 21#8) ∧
    decodeFrame [0xB7#8, 0x07#8, 0x7F#8, 0x27#8, 0x40#8] = .frame (.slider 7 255#8) := by decide

/-- V-CB1 to V-CB10. -/
theorem test_decode_channel_buttons :
    decodeFrame [0xB0#8, 0x46#8, 0x7F#8] = .frame (.chbtnMutePress 0) ∧
    decodeFrame [0xB7#8, 0x46#8, 0x00#8] = .frame (.chbtnMuteRelease 7) ∧
    decodeFrame [0xB1#8, 0x47#8, 0x7F#8] = .frame (.chbtnSoloPress 1) ∧
    decodeFrame [0xB6#8, 0x47#8, 0x00#8] = .frame (.chbtnSoloRelease 6) ∧
    decodeFrame [0xB2#8, 0x48#8, 0x7F#8] = .frame (.chbtnGangPress 2) ∧
    decodeFrame [0xB5#8, 0x48#8, 0x00#8] = .frame (.chbtnGangRelease 5) ∧
    decodeFrame [0xB3#8, 0x49#8, 0x7F#8] = .frame (.chbtnPanPress 3) ∧
    decodeFrame [0xB4#8, 0x49#8, 0x00#8] = .frame (.chbtnPanRelease 4) ∧
    decodeFrame [0xB4#8, 0x4A#8, 0x7F#8] = .frame (.chbtnSliderPress 4) ∧
    decodeFrame [0xB3#8, 0x4A#8, 0x00#8] = .frame (.chbtnSliderRelease 3) := by decide

/-- V-G1 to V-G8. -/
theorem test_decode_global_buttons :
    decodeFrame [0xB0#8, 0x70#8, 0x7F#8] = .frame .gbtnClearPress ∧
    decodeFrame [0xB0#8, 0x70#8, 0x00#8] = .frame .gbtnClearRelease ∧
    decodeFrame [0xB0#8, 0x71#8, 0x7F#8] = .frame .gbtnWritePress ∧
    decodeFrame [0xB0#8, 0x71#8, 0x00#8] = .frame .gbtnWriteRelease ∧
    decodeFrame [0xB0#8, 0x72#8, 0x7F#8] = .frame .gbtnShowPress ∧
    decodeFrame [0xB0#8, 0x72#8, 0x00#8] = .frame .gbtnShowRelease ∧
    decodeFrame [0xB0#8, 0x73#8, 0x7F#8] = .frame .gbtnMasterPress ∧
    decodeFrame [0xB0#8, 0x73#8, 0x00#8] = .frame .gbtnMasterRelease := by decide

/-- V-E8 and V-E9, read back by the outbound row. -/
theorem test_decode_setslider :
    decodeCommand [0xB7#8, 0x07#8, 0x7F#8, 0x27#8, 0x40#8] = some (.setslider 7 255) ∧
    decodeCommand [0xB3#8, 0x07#8, 0x64#8, 0x27#8, 0x00#8] = some (.setslider 3 200) := by decide

/-- V-E15 to V-E24. -/
theorem test_decode_channel_leds :
    decodeCommand [0xB0#8, 0x46#8, 0x7F#8] = some (.setledMuteOn 0) ∧
    decodeCommand [0xB0#8, 0x46#8, 0x00#8] = some (.setledMuteOff 0) ∧
    decodeCommand [0xB1#8, 0x47#8, 0x7F#8] = some (.setledSoloOn 1) ∧
    decodeCommand [0xB1#8, 0x47#8, 0x00#8] = some (.setledSoloOff 1) ∧
    decodeCommand [0xB2#8, 0x48#8, 0x7F#8] = some (.setledGangOn 2) ∧
    decodeCommand [0xB2#8, 0x48#8, 0x00#8] = some (.setledGangOff 2) ∧
    decodeCommand [0xB3#8, 0x49#8, 0x7F#8] = some (.setledPanOn 3) ∧
    decodeCommand [0xB3#8, 0x49#8, 0x00#8] = some (.setledPanOff 3) ∧
    decodeCommand [0xB4#8, 0x4A#8, 0x7F#8] = some (.setledSliderOn 4) ∧
    decodeCommand [0xB4#8, 0x4A#8, 0x00#8] = some (.setledSliderOff 4) := by decide

/-- V-E25 to V-E32. -/
theorem test_decode_global_leds :
    decodeCommand [0xB5#8, 0x70#8, 0x7F#8] = some (.setledClearOn 5) ∧
    decodeCommand [0xB5#8, 0x70#8, 0x00#8] = some (.setledClearOff 5) ∧
    decodeCommand [0xB6#8, 0x71#8, 0x7F#8] = some (.setledWriteOn 6) ∧
    decodeCommand [0xB6#8, 0x71#8, 0x00#8] = some (.setledWriteOff 6) ∧
    decodeCommand [0xB7#8, 0x72#8, 0x7F#8] = some (.setledShowOn 7) ∧
    decodeCommand [0xB7#8, 0x72#8, 0x00#8] = some (.setledShowOff 7) ∧
    decodeCommand [0xB0#8, 0x73#8, 0x7F#8] = some (.setledMasterOn 0) ∧
    decodeCommand [0xB0#8, 0x73#8, 0x00#8] = some (.setledMasterOff 0) := by decide

/-- The words of opcode_table.json, byte 0 most significant (R77); the last two only an outbound row selects. -/
theorem test_table_words :
    decodeTableWord 40 0xB007002700 = some (.slider 0 0#8) ∧
    decodeTableWord 24 0xB04900 = some (.chbtnPanRelease 0) ∧
    decodeTableWord 24 0xB0737F = some .gbtnMasterPress ∧
    decodeTableWord 24 0xB3707F = some (.setledClearOn 3) ∧
    decodeTableWord 24 0xB77300 = some (.setledMasterOff 7) ∧
    decodeTableWord 24 0xB01000 = none := by decide

/-- V-S1 to V-S11: the length gate and the status byte. -/
theorem test_status_byte :
    decodeOne [] = .incomplete ∧ decodeOne [0xB8#8] = .incomplete ∧
    decodeOne [0xB8#8, 0x07#8] = .malformed ⟨.invalidChannel, none, [0xB8#8, 0x07#8]⟩ ∧
    decodeOne [0xAF#8, 0x07#8, 0x0A#8, 0x27#8, 0x40#8]
      = .malformed ⟨.invalidChannel, none, [0xAF#8, 0x07#8]⟩ ∧
    decodeOne [0xB8#8, 0x50#8] = .malformed ⟨.invalidChannel, none, [0xB8#8, 0x50#8]⟩ := by decide

/-- V-SL12 to V-SL28. -/
theorem test_slider_checks :
    decodeOne [0xB0#8, 0x07#8, 0x80#8] = .incomplete ∧
    decodeOne [0xB0#8, 0x07#8, 0x10#8, 0x99#8, 0x00#8]
      = .malformed ⟨.invalidFieldValue, some .marker, [0xB0#8, 0x07#8, 0x10#8, 0x99#8, 0x00#8]⟩ ∧
    decodeOne [0xB0#8, 0x07#8, 0x80#8, 0x27#8, 0x41#8]
      = .malformed ⟨.invalidFieldValue, some .low, [0xB0#8, 0x07#8, 0x80#8, 0x27#8, 0x41#8]⟩ ∧
    decodeOne [0xB0#8, 0x07#8, 0x80#8, 0x27#8, 0x00#8]
      = .malformed ⟨.invalidFieldValue, some .high, [0xB0#8, 0x07#8, 0x80#8, 0x27#8, 0x00#8]⟩ ∧
    decodeOne [0xB0#8, 0x07#8, 0x10#8, 0x27#8, 0x40#8, 0xB0#8] = .parsed (.sliderMove 0 33#8) 5 ∧
    decodeOne [0xB0#8, 0x06#8] = .malformed ⟨.invalidFrameType, none, [0xB0#8, 0x06#8]⟩ ∧
    decodeOne [0xB0#8, 0x08#8] = .malformed ⟨.invalidFrameType, none, [0xB0#8, 0x08#8]⟩ := by decide

/-- V-CB12 to V-CB22. -/
theorem test_channel_button_checks :
    decodeOne [0xB2#8, 0x49#8] = .incomplete ∧
    decodeOne [0xB2#8, 0x49#8, 0x40#8]
      = .malformed ⟨.invalidFieldValue, some .event, [0xB2#8, 0x49#8, 0x40#8]⟩ ∧
    decodeOne [0xB2#8, 0x45#8, 0x7F#8] = .malformed ⟨.invalidFrameType, none, [0xB2#8, 0x45#8]⟩ ∧
    decodeOne [0xB2#8, 0x4B#8] = .malformed ⟨.invalidFrameType, none, [0xB2#8, 0x4B#8]⟩ ∧
    decodeOne [0xB2#8, 0x4B#8, 0xFF#8] = .malformed ⟨.invalidFrameType, none, [0xB2#8, 0x4B#8]⟩ ∧
    decodeOne [0xB2#8, 0x49#8, 0x7F#8, 0xB0#8] = .parsed (.channelButton 2 .pan true) 3 := by decide

/-- V-G10 to V-G18, and V-L4. -/
theorem test_global_button_checks :
    decodeOne [0xB0#8, 0x70#8] = .incomplete ∧
    decodeOne [0xB0#8, 0x72#8, 0x40#8]
      = .malformed ⟨.invalidFieldValue, some .event, [0xB0#8, 0x72#8, 0x40#8]⟩ ∧
    decodeOne [0xB1#8, 0x70#8] = .malformed ⟨.invalidChannel, none, [0xB1#8, 0x70#8]⟩ ∧
    decodeOne [0xB1#8, 0x74#8] = .malformed ⟨.invalidChannel, none, [0xB1#8, 0x74#8]⟩ ∧
    decodeOne [0xB0#8, 0x74#8] = .malformed ⟨.invalidFrameType, none, [0xB0#8, 0x74#8]⟩ := by decide

/-- V-G19 to V-G35. -/
theorem test_unknown_classes :
    decodeOne [0xB0#8, 0x6F#8, 0x7F#8] = .malformed ⟨.unknownMessageClass, none, [0xB0#8, 0x6F#8]⟩ ∧
    decodeOne [0xB0#8, 0x10#8] = .malformed ⟨.unknownMessageClass, none, [0xB0#8, 0x10#8]⟩ ∧
    decodeOne [0xB0#8, 0x80#8] = .malformed ⟨.unknownMessageClass, none, [0xB0#8, 0x80#8]⟩ ∧
    decodeOne [0xB1#8, 0x10#8] = .malformed ⟨.unknownMessageClass, none, [0xB1#8, 0x10#8]⟩ := by decide

/-! ### The encoder -/

/-- V-E1 to V-E9. -/
theorem test_encode_slider :
    encodeSlider 0 0 = .ok [0xB0#8, 0x07#8, 0x00#8, 0x27#8, 0x00#8] ∧
    encodeSlider 0 1 = .ok [0xB0#8, 0x07#8, 0x00#8, 0x27#8, 0x40#8] ∧
    encodeSlider 0 127 = .ok [0xB0#8, 0x07#8, 0x3F#8, 0x27#8, 0x40#8] ∧
    encodeSlider 0 128 = .ok [0xB0#8, 0x07#8, 0x40#8, 0x27#8, 0x00#8] ∧
    encodeSlider 7 255 = .ok [0xB7#8, 0x07#8, 0x7F#8, 0x27#8, 0x40#8] := by decide

/-- V-E10 to V-E14. -/
theorem test_encode_slider_rejects :
    encodeSlider 8 0 = .rejected .channelOutOfRange ∧
    encodeSlider (-1) 0 = .rejected .channelOutOfRange ∧
    encodeSlider 0 256 = .rejected .valueOutOfRange ∧
    encodeSlider 0 (-1) = .rejected .valueOutOfRange ∧
    encodeSlider 8 256 = .rejected .channelOutOfRange := by decide

/-- V-E21, V-E26, V-E35, V-E36. -/
theorem test_encode_led :
    encodeLed 3 .pan true = .ok [0xB3#8, 0x49#8, 0x7F#8] ∧
    encodeLed 5 .clear false = .ok [0xB5#8, 0x70#8, 0x00#8] ∧
    encodeLed 3 .clear true = .ok [0xB3#8, 0x70#8, 0x7F#8] ∧
    encodeLed 8 .mute true = .rejected .channelOutOfRange := by decide

/-- P5, step 2: an encoder step adds its reply and nothing else, also while FAULTED (R212). -/
theorem test_step_encode_slider :
    after (step (pending [0xB0#8, 0x50#8] (some classFault) [.encodeSlider 7 255]))
      = some { pending [0xB0#8, 0x50#8] (some classFault) [] with
          replies := [.ok [0xB7#8, 0x07#8, 0x7F#8, 0x27#8, 0x40#8]] } := by decide

/-- V-E37, V-E38, V-E39: the raw form, under KEY_INPUT = raw byte. -/
theorem test_step_encode_raw :
    let raw (c : Int) (b : Byte) (on : Bool) : State :=
      { session [.encodeLed c (.raw b) on] with
        params := { Params.atReset with keyInput := .rawByte } }
    (after (step (raw 0 0x45#8 true))).map State.replies = some [.rejected .unknownKey] ∧
    (after (step (raw 0 0x4A#8 false))).map State.replies = some [.ok [0xB0#8, 0x4A#8, 0x00#8]] ∧
    (after (step (raw 8 0x45#8 true))).map State.replies = some [.rejected .channelOutOfRange] := by
  decide

/-! ### FEED and CLEAR, one step each -/

/-- W9. -/
theorem test_feed_slider :
    after (step (session [.feed [0xB0#8, 0x07#8, 0x0A#8, 0x27#8, 0x40#8]]))
      = some { session [] with events := [.sliderMove 0 21#8] } := by decide

/-- V-A3, k = 2, second chunk: the frame completed by this chunk. -/
theorem test_feed_completes_frame :
    after (step (pending [0xB0#8, 0x07#8] none [.feed [0x0A#8, 0x27#8, 0x40#8]]))
      = some { session [] with events := [.sliderMove 0 21#8] } := by decide

/-- V-A5. -/
theorem test_feed_three_frames :
    after (step (session [.feed [0xB0#8, 0x07#8, 0x0A#8, 0x27#8, 0x40#8,
        0xB2#8, 0x49#8, 0x7F#8, 0xB0#8, 0x70#8, 0x00#8]]))
      = some { session [] with
          events := [.sliderMove 0 21#8, .channelButton 2 .pan true, .globalButton .clear false] } := by
  decide

/-- V-A7, step 2. -/
theorem test_feed_late_detection :
    after (step (pending [0xB8#8] none [.feed [0x07#8]]))
      = some (pending [0xB8#8, 0x07#8] (some ⟨.invalidChannel, none, [0xB8#8, 0x07#8]⟩) []) := by decide

/-- V-A8: the events before the fault stay, the later bytes are frozen. -/
theorem test_feed_fault :
    after (step (session [.feed [0xB0#8, 0x70#8, 0x7F#8, 0xB0#8, 0x50#8, 0xB0#8, 0x70#8, 0x00#8]]))
      = some { pending [0xB0#8, 0x50#8, 0xB0#8, 0x70#8, 0x00#8] (some classFault) [] with
          events := [.globalButton .clear true] } := by decide

/-- V-A9, steps 1 and 3. -/
theorem test_faulted_feed_and_clear :
    after (step (pending [0xB0#8, 0x50#8] (some classFault) [.feed [0xB0#8, 0x70#8, 0x00#8]]))
      = some (pending [0xB0#8, 0x50#8] (some classFault) []) ∧
    after (step (pending [0xB0#8, 0x50#8] (some classFault) [.clear])) = some (session []) := by decide

/-- V-A12, step 1; and a small BUF_CAP (R180). -/
theorem test_feed_refused :
    refusal (step { session [.feed [0xB0#8, 0x07#8, 0x0A#8, 0x27#8, 0x40#8]] with
      params := { Params.atReset with maxChunk := 4 } }) = some .chunkTooLong ∧
    refusal (step { pending [0xB0#8] none [.feed [0x07#8, 0x0A#8]] with
      params := { Params.atReset with bufCap := some 2 } }) = some .bufferOverCapacity := by decide

/-- A table word placed at reset is what the next step runs. -/
theorem test_placed_word :
    after (step (State.reset.withFetchWord 24 0xB2497F))
      = some { session [] with events := [.channelButton 2 .pan true] } ∧
    after (step (State.reset.withFetchWord 24 0xB3707F))
      = some { session [] with replies := [.ok [0xB3#8, 0x70#8, 0x7F#8]] } := by decide

/-! ### Witnesses: the hypotheses of each statement can be met, at the boundaries of each clause -/

theorem witness_ShortBufferIsIncomplete :
    ([] : List Byte).length < 2 ∧ [0xFF#8].length < 2 := by decide

theorem witness_StatusByteChecked :
    ¬ (0xB0 ≤ (0xAF#8).toNat ∧ (0xAF#8).toNat ≤ 0xB7) ∧
    ¬ (0xB0 ≤ (0xB8#8).toNat ∧ (0xB8#8).toNat ≤ 0xB7) ∧
    decodeOne [0xB7#8, 0x07#8, 0x7F#8, 0x27#8, 0x40#8] = .parsed (.sliderMove 7 255#8) 5 ∧
    decodeOne [0xB0#8, 0x46#8, 0x7F#8] = .parsed (.channelButton 0 .mute true) 3 := by decide

theorem witness_SliderFrameDecodes :
    (0xB0 ≤ (0xB0#8).toNat ∧ (0xB7#8).toNat ≤ 0xB7 ∧ (0x07#8).toNat / 16 = 0 ∧
      (0x06#8).toNat / 16 = 0 ∧ (0x06#8 : Byte) ≠ 0x07#8) ∧
    ([0x80#8, 0x99#8] : List Byte).length < 3 ∧
    ((0x26#8 : Byte) ≠ 0x27#8 ∧ (0x41#8 : Byte) ≠ 0x00#8 ∧ (0x41#8 : Byte) ≠ 0x40#8) ∧
    (0x7F < (0x80#8).toNat ∧ (0x7F#8).toNat ≤ 0x7F) := by decide

theorem witness_ChannelButtonFramesDecode :
    (0xB0 ≤ (0xB7#8).toNat ∧ (0xB7#8).toNat ≤ 0xB7 ∧ (0x4A#8).toNat / 16 = 4 ∧
      (0x45#8).toNat / 16 = 4 ∧ isChannelKey .slider = true ∧ 0x4A#8 = keyByte .slider) ∧
    (∀ k, isChannelKey k = true → keyByte k ≠ 0x45#8) ∧
    (∀ k, isChannelKey k = true → keyByte k ≠ 0x4B#8) ∧
    ((0x40#8 : Byte) ≠ 0x00#8 ∧ (0x40#8 : Byte) ≠ 0x7F#8) := by
  refine ⟨by decide, fun k => ?_, fun k => ?_, by decide⟩ <;> cases k <;> decide

theorem witness_GlobalButtonFramesDecode :
    (0xB0 ≤ (0xB1#8).toNat ∧ (0xB1#8).toNat ≤ 0xB7 ∧ (0xB1#8 : Byte) ≠ 0xB0#8 ∧
      (0x73#8).toNat / 16 = 7 ∧ (0x74#8).toNat / 16 = 7 ∧ isChannelKey .master = false ∧
      0x73#8 = keyByte .master) ∧
    (∀ k, isChannelKey k = false → keyByte k ≠ 0x74#8) ∧
    ((0x80#8 : Byte) ≠ 0x00#8 ∧ (0x80#8 : Byte) ≠ 0x7F#8) := by
  refine ⟨by decide, fun k => ?_, by decide⟩
  cases k <;> decide

theorem witness_UnknownClassIsMalformed :
    0xB0 ≤ (0xB1#8).toNat ∧ (0xB1#8).toNat ≤ 0xB7 ∧
    (0x10#8).toNat / 16 ≠ 0 ∧ (0x3F#8).toNat / 16 ≠ 4 ∧ (0x6F#8).toNat / 16 ≠ 7 ∧
    (0x80#8).toNat / 16 ≠ 7 := by decide

theorem witness_PrefixesAgree :
    2 ≤ ([0xB0#8, 0x70#8] : List Byte).length ∧
    decodeOne [0xB2#8, 0x49#8, 0x7F#8, 0xB0#8] = .parsed (.channelButton 2 .pan true) 3 ∧
    [0xB2#8, 0x49#8] <+: [0xB2#8, 0x49#8, 0x7F#8, 0xB0#8] ∧
    decodeOne [0xB2#8, 0x49#8, 0xFF#8]
      = .malformed ⟨.invalidFieldValue, some .event, [0xB2#8, 0x49#8, 0xFF#8]⟩ := by decide

theorem witness_IncompleteBuffersExactly :
    decodeOne [0xB7#8, 0x07#8, 0x80#8, 0x99#8] = .incomplete ∧
    decodeOne [0xB7#8, 0x4A#8] = .incomplete ∧ decodeOne [0xB0#8, 0x73#8] = .incomplete := by decide

theorem witness_ConsumedIsTheFrameLength :
    decodeOne [0xB0#8, 0x07#8, 0x10#8, 0x27#8, 0x40#8, 0xB0#8] = .parsed (.sliderMove 0 33#8) 5 ∧
    decodeOne [0xB2#8, 0x49#8, 0x7F#8, 0xB0#8] = .parsed (.channelButton 2 .pan true) 3 ∧
    decodeOne [0xB0#8, 0x70#8, 0x00#8] = .parsed (.globalButton .clear false) 3 := by decide

theorem witness_OffendingBytesAreTheExaminedPart :
    decodeOne [0xB8#8, 0x07#8, 0x0A#8] = .malformed ⟨.invalidChannel, none, [0xB8#8, 0x07#8]⟩ ∧
    decodeOne [0xB0#8, 0x73#8, 0xFF#8, 0xB0#8]
      = .malformed ⟨.invalidFieldValue, some .event, [0xB0#8, 0x73#8, 0xFF#8]⟩ ∧
    decodeOne [0xB0#8, 0x07#8, 0xFF#8, 0x27#8, 0x40#8]
      = .malformed ⟨.invalidFieldValue, some .high, [0xB0#8, 0x07#8, 0xFF#8, 0x27#8, 0x40#8]⟩ := by
  decide

theorem witness_ParsedFramePassedEveryCheck :
    decodeOne [0xB5#8, 0x07#8, 0x3F#8, 0x27#8, 0x40#8] = .parsed (.sliderMove 5 127#8) 5 ∧
    decodeOne [0xB3#8, 0x4A#8, 0x00#8] = .parsed (.channelButton 3 .slider false) 3 ∧
    decodeOne [0xB0#8, 0x71#8, 0x7F#8] = .parsed (.globalButton .write true) 3 := by decide

/-- Offsets 1 and 4 of a slider frame; at 4 the next frame's first byte is needed. -/
theorem witness_MisalignedStartIsInvalidChannel :
    Instr.direction (.slider 0 21#8) = .inbound ∧ 4 < (encode (.slider 0 21#8)).length ∧
    2 ≤ ((encode (.slider 0 21#8)).drop 1 ++ []).length ∧
    2 ≤ ((encode (.slider 0 21#8)).drop 4 ++ [0xB0#8]).length := by decide

theorem witness_InboundRowsDecideFrames :
    decodeFrame [0xB0#8, 0x72#8, 0x7F#8] = .frame .gbtnShowPress ∧
    Instr.row .gbtnShowPress ∈ inboundRows ∧
    (Instr.row (.slider 0 0#8)).selects [0xB7#8, 0x07#8, 0x7F#8, 0x27#8, 0x40#8] = true := by decide

theorem witness_DecodeOfEncode :
    WellFormed (.slider 7 255#8) ∧ WellFormed (.setslider 7 255) ∧ WellFormed (.setledMasterOff 7) := by
  decide

theorem witness_EncoderOutputDecodesBack :
    (((0 : Int) ≤ 7 ∧ (7 : Int) ≤ 7) ∧ ((0 : Int) ≤ 255 ∧ (255 : Int) ≤ 255)) ∧
    isChannelKey .mute = true ∧ isChannelKey .clear = false ∧ ((1 : Int) ≤ 1 ∧ (1 : Int) ≤ 7) := by
  decide

theorem witness_EncoderOutputIsLegal :
    encodeSlider 7 255 = .ok [0xB7#8, 0x07#8, 0x7F#8, 0x27#8, 0x40#8] ∧
    encodeLed 0 .master false = .ok [0xB0#8, 0x73#8, 0x00#8] := by decide

theorem witness_KeyCodesAndBytesCorrespond : keyOf 0x49#8 = some .pan := by decide

theorem witness_SliderFrameRuns :
    (session []).fault = none ∧ (pending [] (some classFault) []).fault = some classFault := by decide

theorem witness_ChannelButtonFramesRun :
    (pending [0xB2#8, 0x49#8, 0x7F#8] none []).fault = none ∧
    (pending [] (some classFault) []).fault = some classFault := by decide

theorem witness_GlobalButtonFramesRun :
    (pending [0xB0#8, 0x70#8, 0x00#8] none []).fault = none ∧
    (pending [] (some classFault) []).fault = some classFault := by decide

/-- The three clauses at the ends of the ranges. -/
theorem witness_SetSliderReplies :
    ¬ ((0 : Int) ≤ -1 ∧ (-1 : Int) ≤ 7) ∧ ¬ ((0 : Int) ≤ 8 ∧ (8 : Int) ≤ 7) ∧
    ((0 : Int) ≤ 7 ∧ (7 : Int) ≤ 7) ∧ ¬ ((0 : Int) ≤ 256 ∧ (256 : Int) ≤ 255) ∧
    ((0 : Int) ≤ 255 ∧ (255 : Int) ≤ 255) := by decide

theorem witness_SetLedReplies :
    ¬ ((0 : Int) ≤ 8 ∧ (8 : Int) ≤ 7) ∧ ¬ ((0 : Int) ≤ -1 ∧ (-1 : Int) ≤ 7) ∧
    ((0 : Int) ≤ 0 ∧ (0 : Int) ≤ 7) ∧ ((0 : Int) ≤ 7 ∧ (7 : Int) ≤ 7) := by decide

/-- V-A3, k = 2, second chunk: a frame spread over the buffer and the chunk. -/
theorem witness_StepRunsTheDecodedFrame :
    let s := pending [0xB0#8, 0x07#8] none [.feed [0x0A#8, 0x27#8, 0x40#8]]
    s.ops = .feed [0x0A#8, 0x27#8, 0x40#8] :: [] ∧ s.fault = none ∧
    [0x0A#8, 0x27#8, 0x40#8] ≠ ([] : List Byte) ∧ TakesChunk s [0x0A#8, 0x27#8, 0x40#8] ∧
    decodeFrame (s.buf ++ [0x0A#8, 0x27#8, 0x40#8]) = .frame (.slider 0 21#8) := by decide

theorem witness_StepRunsTheEncoderInstruction :
    Instr.direction (.setslider 8 256) = .outbound ∧
    (session [.encodeSlider 8 256]).ops = Instr.hostOp (.setslider 8 256) :: [] := by decide

theorem witness_PlacedWordIsRunNext :
    decodeTableWord 24 0xB3707F = some (.setledClearOn 3) ∧
    Instr.direction (.setledClearOn 3) = .outbound ∧
    decodeTableWord 40 0xB7077F2740 = some (.slider 7 255#8) ∧
    Instr.direction (.slider 7 255#8) = .inbound := by decide

/-- An ACTIVE block, an empty chunk and a FAULTED block. -/
theorem witness_FeedFollowsThePseudocode :
    TakesChunk (session [.feed [0xB0#8]]) [0xB0#8] ∧ (session [.feed [0xB0#8]]).fault = none ∧
    TakesChunk (session [.feed []]) [] ∧
    TakesChunk (pending [0xB0#8, 0x50#8] (some classFault) [.feed [0xB0#8]]) [0xB0#8] := by decide

theorem witness_FeedIsPreciseAtFrames :
    let s := session [.feed [0xB0#8, 0x70#8, 0x7F#8, 0xB0#8, 0x50#8]]
    s.ops = .feed [0xB0#8, 0x70#8, 0x7F#8, 0xB0#8, 0x50#8] :: [] ∧ s.fault = none ∧
    TakesChunk s [0xB0#8, 0x70#8, 0x7F#8, 0xB0#8, 0x50#8] := by decide

theorem witness_EmptyChunkChangesNothing :
    (pending [0xB0#8, 0x07#8] none [.feed []]).ops = .feed [] :: [] ∧
    State.Inv (pending [0xB0#8, 0x07#8] none [.feed []]) := ⟨rfl, by unfold State.Inv; decide⟩

theorem witness_FaultedFeedDiscardsTheChunk :
    let s := pending [0xB0#8, 0x50#8] (some classFault) [.feed [0xB0#8, 0x70#8, 0x00#8]]
    s.ops = .feed [0xB0#8, 0x70#8, 0x00#8] :: [] ∧ s.fault = some classFault ∧
    [0xB0#8, 0x70#8, 0x00#8].length ≤ s.params.maxChunk := by decide

theorem witness_ClearStartsASession :
    (pending [0xB0#8, 0x50#8] (some classFault) [.clear]).ops = .clear :: [] ∧
    (session [.clear, .clear]).ops = .clear :: .clear :: [] ∧
    after (step (session [.clear, .clear])) = some (session [.clear]) := by decide

theorem witness_IdleBlockHoldsItsState : (pending [0xB0#8] none []).ops = [] := by decide

theorem witness_FaultedBlockIsFrozen :
    let s := pending [0xB0#8, 0x50#8] (some classFault) [.encodeLed 0 (.code .show) true]
    s.fault = some classFault ∧ (after (step s)).isSome = true ∧ (∀ rest, s.ops ≠ .clear :: rest) :=
  ⟨rfl, by decide, fun _ h => by cases h⟩

theorem witness_OnlyFeedFaultsOnlyClearRecovers :
    (after (step (pending [0xB8#8] none [.feed [0x07#8]]))).map State.fault
      = some (some ⟨.invalidChannel, none, [0xB8#8, 0x07#8]⟩) ∧
    (after (step (pending [0xB0#8, 0x50#8] (some classFault) [.clear]))).map State.fault = some none := by
  decide

theorem witness_DeliveredIsNeverWithdrawn :
    (after (step { session [.feed [0xB0#8, 0x50#8]] with events := [.globalButton .clear true] })).map
      State.events = some [.globalButton .clear true] := by decide

theorem witness_EncoderAndDecoderStateAreApart :
    let s := session [.encodeSlider 0 21]
    s.ops = .encodeSlider 0 21 :: [] ∧ (∀ chunk, HostOp.encodeSlider 0 21 ≠ .feed chunk) ∧
    HostOp.encodeSlider 0 21 ≠ .clear := ⟨rfl, fun _ => by simp, by decide⟩

theorem witness_DecoderIgnoresReplies :
    (session [.feed [0xB0#8]]).ops = .feed [0xB0#8] :: [] ∧ (session [.clear]).ops = .clear :: [] := by
  decide

/-- V-E30: a global key on channel 7. -/
theorem witness_EveryKeyOnEveryChannelEncodes :
    (session [.encodeLed 7 (.code .show) false]).ops = .encodeLed 7 (.code .show) false :: [] ∧
    (0 : Int) ≤ 7 ∧ (7 : Int) ≤ 7 := by decide

theorem witness_RawKeyByteIsChecked :
    let s := { session [.encodeLed 0 (.raw 0x45#8) true] with
      params := { Params.atReset with keyInput := .rawByte } }
    s.ops = .encodeLed 0 (.raw 0x45#8) true :: [] ∧ s.params.keyInput = .rawByte ∧
    ¬ ((0 : Int) ≤ 8 ∧ (8 : Int) ≤ 7) ∧ (∀ k, keyByte k ≠ 0x45#8) ∧ keyByte .slider = 0x4A#8 :=
  ⟨rfl, rfl, by decide, fun k => by cases k <;> decide, rfl⟩

theorem witness_ConcatenatedFramesAllDecode :
    let is : List Instr := [.slider 0 21#8, .chbtnPanPress 2, .gbtnClearRelease]
    (∀ i ∈ is, i.direction = .inbound) ∧ (session [.feed (is.flatMap encode)]).fault = none ∧
    (session [.feed (is.flatMap encode)]).buf = [] ∧
    TakesChunk (session [.feed (is.flatMap encode)]) (is.flatMap encode) := by decide

theorem witness_ChunkBoundariesAreInvisible :
    (pending [0xB0#8] none []).fault = none ∧
    TakesChunk (pending [0xB0#8] none []) ([0x07#8, 0x10#8, 0x99#8, 0x00#8] ++ [0xB0#8, 0x70#8]) := by
  decide

theorem witness_ByteSerialFeedingIsEquivalent :
    (session []).fault = none ∧
    TakesChunk { session [] with params := { Params.atReset with maxChunk := 3, bufCap := some 7 } }
      [0xB2#8, 0x49#8, 0x7F#8] := by decide

theorem witness_RefeedingReproducesTheFault :
    let s := pending [0xB0#8, 0x50#8, 0x00#8] (some classFault) [.clear, .feed [0xB0#8, 0x50#8]]
    s.Inv ∧ s.fault = some classFault ∧ s.ops = .clear :: .feed classFault.bytes :: [] ∧
    TakesChunk { s with buf := [] } classFault.bytes :=
  ⟨by unfold State.Inv; decide, rfl, rfl, by decide⟩

theorem witness_FirstByteIsNeverJudged :
    (session [.feed [0xB8#8]]).fault = none ∧ (session [.feed [0xB8#8]]).buf = [] ∧
    (session [.feed [0xB8#8]]).ops = .feed [0xB8#8] :: [] ∧
    TakesChunk (session [.feed [0xB8#8]]) [0xB8#8] := by decide

/-- An ACTIVE state that meets the invariant and whose step faults, and a FAULTED one. -/
theorem witness_EveryStepKeepsTheBufferInvariant :
    State.Inv (pending [0xB8#8] none [.feed [0x07#8]]) ∧
    (after (step (pending [0xB8#8] none [.feed [0x07#8]]))).isSome = true ∧
    State.Inv (pending [0xB0#8, 0x50#8] (some classFault) [.clear]) :=
  ⟨by unfold State.Inv; decide, by decide, by unfold State.Inv; decide⟩

/-- Four pending bytes and a seven-byte chunk: the bound (4 + 7) / 3 = 3 is reached. -/
theorem witness_DecodeLoopEnds :
    (after (step (pending [0xB0#8, 0x07#8, 0x0A#8, 0x27#8] none [.feed [0x40#8, 0xB2#8, 0x49#8,
      0x7F#8, 0xB0#8, 0x70#8, 0x00#8]]))).map (fun t => t.events.length) = some 3 := by decide

theorem witness_RefusedStepsExactly :
    refusal (step { session [.feed [0xB0#8, 0x07#8]] with
      params := { Params.atReset with maxChunk := 1 } }) = some .chunkTooLong ∧
    refusal (step { session [.feed [0xB0#8, 0x07#8]] with
      params := { Params.atReset with bufCap := some 1 } }) = some .bufferOverCapacity ∧
    refusal (step (session [.encodeLed 0 (.raw 0x4A#8) true])) = some .rawKeyNotTaken := by decide

/-- The buffer at its bound of four bytes, BUF_CAP at its least. -/
theorem witness_BufferNeverOverflows :
    let s := { pending [0xB0#8, 0x07#8, 0x10#8, 0x27#8] none [.feed [0x40#8]] with
      params := { Params.atReset with maxChunk := 1, bufCap := some 5 } }
    s.params.wf = true ∧ s.Inv ∧ s.ops = .feed [0x40#8] :: [] ∧
    [0x40#8].length ≤ s.params.maxChunk :=
  ⟨by decide, by unfold State.Inv; decide, rfl, by decide⟩

theorem witness_ParametersNeverChange :
    (after (step { session [.clear] with
      params := { Params.atReset with maxChunk := 1 } })).map (fun t => t.params.maxChunk)
      = some 1 := by decide

end Sys2Proof.Tests
end

section
/-! PROOFS. The scope of the block (00_scope.md): a step runs the operation at the front of the queue, no step writes a
parameter, and the form of the consumer is never looked at. -/

namespace Sys2Proof.Machine

/-! ### One step is one operation -/

theorem step_op {s : State} {op : HostOp} {rest : List HostOp} (h : s.ops = op :: rest) :
    step s = runOp op { s with ops := rest } := by
  simp [step, runNext, h]

/-- The ENCODE operation that carries an outbound instruction means that instruction (R141, R142). -/
theorem runOp_hostOp {i : Instr} (h : i.direction = .outbound) (s : State) :
    runOp i.hostOp s = exec i s := by
  cases i <;> cases h <;> rfl

/-- Settles O26: the operation a step takes off the queue is the one that carries the instruction. -/
theorem stepRunsTheEncoderInstruction : Obligations.StepRunsTheEncoderInstruction := by
  intro s rest i hi hops
  rw [step_op hops, runOp_hostOp hi]

/-- R170, Parsed arm, by the instruction's own meaning: the decode loop runs it and goes on from its state. -/
theorem drain_exec {s : State} {i : Instr} (ha : s.fault = none) (h : decodeFrame s.buf = .frame i) :
    ∃ t, exec i s = .next t ∧ drain s = drain t := by
  obtain ⟨e, he, hd⟩ := drain_frame ha h
  exact ⟨_, exec_of_event he s, by rw [hd, acceptFrame_active ha]⟩

/-- Settles O25: the step is the decode loop, whose first round is the frame's meaning. -/
theorem stepRunsTheDecodedFrame : Obligations.StepRunsTheDecodedFrame := by
  intro s chunk rest i hops ha hc hk hdec
  obtain ⟨t, hexec, hdrain⟩ :=
    drain_exec (s := { s with ops := rest, buf := s.buf ++ chunk }) ha hdec
  have hstep : step s = drain t := by rw [step_feed_active hops ha hc hk, hdrain]
  refine ⟨t, hexec, hstep, fun hnil => ?_⟩
  rw [hstep, drain_incomplete (by rw [hnil, decodeFrame_nil])]

/-! ### A placed table word -/

theorem decode_inbound_eq_some_iff {b : List Byte} {i : Instr} :
    decode .inbound b = some i ↔ decodeFrame b = .frame i := by
  cases h : decodeFrame b <;> simp [decode, h]

theorem direction_ledInstr (k : KeyCode) (on : Bool) (c : Int) :
    (ledInstr k on c).direction = .outbound := by
  cases k <;> cases on <;> rfl

/-- The outbound rows give commands only. -/
theorem direction_of_decodeCommand {b : List Byte} {i : Instr} (h : decodeCommand b = some i) :
    i.direction = .outbound := by
  unfold decodeCommand at h
  split at h
  · split at h
    · split at h
      · split at h
        · split at h
          · cases h; rfl
          · cases h
        · cases h
      · split at h
        · obtain ⟨on, -, rfl⟩ := Option.map_eq_some_iff.mp h
          exact direction_ledInstr _ on _
        · cases h
    · cases h
  · cases h

/-- An inbound instruction is read from a table word by the block's own decoder (log 5). -/
theorem decodeFrame_tableBytes {nbits w : Nat} {i : Instr} (h : decodeTableWord nbits w = some i)
    (hi : i.direction = .inbound) : decodeFrame (tableBytes nbits w) = .frame i := by
  rcases Option.or_eq_some_iff.mp h with hin | ⟨-, hout⟩
  · exact decode_inbound_eq_some_iff.mp hin
  · have hdir := direction_of_decodeCommand hout
    simp [hi] at hdir

theorem two_le_frameLength (b : List Byte) : 2 ≤ frameLength b := by
  unfold frameLength; split <;> decide

/-- Byte 1 tells a frame's length (R63), so bytes cut off behind it make no difference. -/
theorem frameLength_take {n : Nat} (hn : 2 ≤ n) (b : List Byte) :
    frameLength (b.take n) = frameLength b := by
  have : (b.take n)[1]? = b[1]? := List.getElem?_take_of_lt (by omega)
  simp [frameLength, this]

/-- No key byte is of class 0, the slider's (R62, R69). -/
theorem classOf_keyByte_ne_zero (k : KeyCode) : classOf (keyByte k) ≠ 0x0#8 := by
  cases k <;> decide

theorem frameLength_sliderBytes_append (s v : Byte) (tail : List Byte) :
    frameLength (sliderBytes s v ++ tail) = 5 := by
  simp [frameLength, sliderBytes, classOf, sliderType]

theorem frameLength_buttonBytes_append (s : Byte) (k : KeyCode) (p : Bool) (tail : List Byte) :
    frameLength (buttonBytes s k p ++ tail) = 3 := by
  simp [frameLength, buttonBytes, classOf_keyByte_ne_zero]

/-- R118, for both layouts: byte 1 tells the length of every frame. -/
theorem frameLength_encode_append (i : Instr) (tail : List Byte) :
    frameLength (encode i ++ tail) = i.length := by
  cases i <;>
    simp only [encode, Instr.length, frameLength_sliderBytes_append, frameLength_buttonBytes_append]

/-- A table word's bytes are no more than the one frame byte 1 tells of. -/
theorem length_tableBytes_le (nbits w : Nat) :
    (tableBytes nbits w).length ≤ frameLength (tableBytes nbits w) := by
  unfold tableBytes
  rw [frameLength_take (two_le_frameLength _)]
  exact List.length_take_le ..

/-- A table word the decoder reads is that frame's bytes and nothing behind them. -/
theorem tableBytes_eq_encode {nbits w : Nat} {i : Instr}
    (h : decodeFrame (tableBytes nbits w) = .frame i) : tableBytes nbits w = encode i := by
  obtain ⟨tail, hb, -⟩ := decodeFrame_frame h
  have hle := length_tableBytes_le nbits w
  rw [hb, frameLength_encode_append, List.length_append, length_encode] at hle
  have htail : tail = [] := List.eq_nil_of_length_eq_zero (by omega)
  rw [hb, htail, List.append_nil]

theorem withFetchWord_outbound {nbits w : Nat} {i : Instr} (h : decodeTableWord nbits w = some i)
    (hi : i.direction = .outbound) (s : State) :
    s.withFetchWord nbits w = { s with ops := i.hostOp :: s.ops } := by
  simp [State.withFetchWord, placeWord, h, hi]

theorem withFetchWord_inbound {nbits w : Nat} {i : Instr} (h : decodeTableWord nbits w = some i)
    (hi : i.direction = .inbound) (s : State) :
    s.withFetchWord nbits w =
      { s with buf := [], fault := none, params := roomForFrame s.params,
               ops := .feed (encode i) :: s.ops } := by
  simp [State.withFetchWord, placeWord, placeWord.placeBytes, h, hi,
    tableBytes_eq_encode (decodeFrame_tableBytes h hi)]

theorem length_le_five (i : Instr) : i.length ≤ 5 := by cases i <;> simp [Instr.length]

theorem fits_roomForFrame (p : Params) {n : Nat} (h : n ≤ 5) : fits (roomForFrame p) n = true := by
  cases hcap : p.bufCap <;> simp [fits, roomForFrame, hcap, h]

/-- A frame fed alone to an ACTIVE block with nothing pending that takes it: the step is its meaning. -/
theorem step_feed_encode {s : State} {i : Instr} {rest : List HostOp}
    (hops : s.ops = .feed (encode i) :: rest) (ha : s.fault = none) (hb : s.buf = [])
    (hk : TakesChunk s (encode i)) (hdec : decodeFrame (encode i) = .frame i) :
    step s = exec i { s with ops := rest, buf := encode i } := by
  have hne : encode i ≠ [] := by
    intro hnil
    simp [hnil, decodeFrame_nil] at hdec
  obtain ⟨t, hexec, -, hlast⟩ :=
    stepRunsTheDecodedFrame s (encode i) rest i hops ha hne hk (by rw [hb]; exact hdec)
  rw [hb, List.nil_append] at hexec
  have hnil : t.buf = [] := by
    obtain ⟨e, he⟩ := decodeFrame_frame_event hdec
    rw [exec_of_event he, acceptFrame_active (s := { s with ops := rest, buf := encode i }) ha] at hexec
    cases hexec
    simp [← length_encode]
  rw [hexec, hlast hnil]

/-- Settles O27: an outbound word is placed as its ENCODE operation, an inbound one as a FEED of exactly its frame. -/
theorem placedWordIsRunNext : Obligations.PlacedWordIsRunNext := by
  intro s nbits w i h
  refine ⟨fun hi => ?_, fun hi => ?_⟩
  · rw [withFetchWord_outbound h hi]
    exact stepRunsTheEncoderInstruction _ s.ops i hi rfl
  · have hdec := decodeFrame_tableBytes h hi
    rw [tableBytes_eq_encode hdec] at hdec
    have hlen : (encode i).length ≤ 5 := by rw [length_encode]; exact length_le_five i
    rw [withFetchWord_inbound h hi]
    refine step_feed_encode rfl rfl rfl ⟨?_, ?_⟩ hdec
    · exact hlen.trans (le_max_right _ _)
    · exact fits_roomForFrame _ (by simpa using hlen)

/-! ### The parameters (R6, R13) -/

theorem drain_params {s t : State} (ha : s.fault = none) (h : drain s = .next t) :
    t.params = s.params := by
  obtain ⟨is, b, f, -, -, hd, -⟩ := drain_spec ha
  rw [hd] at h
  cases h
  rfl

theorem runFeed_params {c : List Byte} {s t : State} (h : runFeed c s = .next t) :
    t.params = s.params := by
  obtain ⟨-, ⟨-, rfl⟩ | ⟨-, -, rfl⟩ | ⟨ha, -, -, hd⟩⟩ := runFeed_next h
  · rfl
  · rfl
  · exact drain_params (s := appendChunk c s) ha hd

/-- Settles O52, by the inversion of a step: hold, FEED, CLEAR and reply each keep the parameters. -/
theorem parametersNeverChange : Obligations.ParametersNeverChange := by
  intro s t h
  obtain ⟨-, rfl⟩ | ⟨c, rest, -, hf⟩ | ⟨rest, -, rfl⟩ | ⟨op, rest, o, -, -, -, rfl⟩ := step_next h
  · rfl
  · exact runFeed_params (s := { s with ops := rest }) hf
  · rfl
  · rfl

/-! ### The consumer (R6, R181) -/

@[simp] theorem withConsumer_params (c : Consumer) (s : State) :
    (s.withConsumer c).params = { s.params with consumer := c } := rfl

theorem acceptFrame_withConsumer (c : Consumer) (e : ControlEvent) (n : Nat) (s : State) :
    acceptFrame e n (s.withConsumer c) = (acceptFrame e n s).withConsumer c := by
  cases h : s.fault with
  | none => rw [acceptFrame_active (by simpa using h), acceptFrame_active h]; rfl
  | some r => rw [acceptFrame_faulted (by simpa using h), acceptFrame_faulted h]

theorem runFeed_withConsumer (c : Consumer) (chunk : List Byte) (s : State) :
    runFeed chunk (s.withConsumer c) = mapNext (State.withConsumer c) (runFeed chunk s) :=
  runFeed_commutes (g := State.withConsumer c) (fun _ => rfl) (fun _ => rfl) (fun _ => rfl) (fun _ => rfl)
    (fun _ _ => rfl) (acceptFrame_withConsumer c) (fun _ _ => rfl) chunk s

/-- An ENCODE_LED commutes with every view that keeps KEY_INPUT and commutes with a reply. -/
theorem runEncodeLed_commutes {g : State → State}
    (hkey : ∀ s, (g s).params.keyInput = s.params.keyInput)
    (hr : ∀ o s, reply o (g s) = g (reply o s)) (c : Int) (k : KeyOperand) (on : Bool) (s : State) :
    runEncodeLed c k on (g s) = mapNext g (runEncodeLed c k on s) := by
  cases k with
  | code k => simp [runEncodeLed_code, mapNext, hr]
  | raw byte =>
    simp only [runEncodeLed, hkey, exec_ledInstr, hr]
    cases s.params.keyInput with
    | keyCode => rfl
    | rawByte => cases rawKeyRejection c byte <;> cases keyOf byte <;> rfl

theorem runOp_withConsumer (c : Consumer) (op : HostOp) (s : State) :
    runOp op (s.withConsumer c) = mapNext (State.withConsumer c) (runOp op s) := by
  cases op with
  | feed chunk => exact runFeed_withConsumer c chunk s
  | clear => rfl
  | encodeSlider ch v => rfl
  | encodeLed ch k on =>
    exact runEncodeLed_commutes (g := State.withConsumer c) (fun _ => rfl) (fun _ _ => rfl) ch k on s

/-- Settles O53: an idle block holds its state, and every operation commutes with the change of consumer. -/
theorem consumerFormIsInvisible : Obligations.ConsumerFormIsInvisible := by
  intro s c
  cases hops : s.ops with
  | nil => simp [step, runNext, hops, mapNext]
  | cons op rest =>
    rw [step_op (show (s.withConsumer c).ops = op :: rest from hops), step_op hops]
    exact runOp_withConsumer c op { s with ops := rest }

end Sys2Proof.Machine
end

section
/-! PROOFS. The two decoders agree (R101), and the buffers that wait for more bytes (R22, R122). -/

namespace Sys2Proof

/-! ### `decode_one` answers what the machine's decoder answers -/

@[simp] theorem outcome_incomplete : Decoded.incomplete.outcome = .incomplete := rfl

@[simp] theorem outcome_malformed (r : FaultRecord) :
    (Decoded.malformed r).outcome = .malformed r := rfl

theorem outcome_frame {i : Instr} {e : ControlEvent} (h : i.event? = some e) :
    (Decoded.frame i).outcome = .parsed e i.length := by
  simp [Decoded.outcome, h]

/-- R68: the event byte's check and its reading, as `decode_one` tests them. -/
theorem pressedOf_eq_ite (e : Byte) :
    pressedOf e = if e ≠ 0x00#8 ∧ e ≠ 0x7F#8 then none else some (decide (e = 0x7F#8)) := by
  unfold pressedOf
  split_ifs <;> simp_all

section Agreement

variable {s t : Byte}

theorem decodeOne_of_status_illegal (hs : ¬ statusOk s = true) (rest : List Byte) :
    decodeOne (s :: t :: rest) = .malformed ⟨.invalidChannel, none, [s, t]⟩ := by
  rw [statusOk_iff] at hs
  simp only [decodeOne, List.length_cons, List.getD_cons_zero, if_pos hs]
  simp

/-- R105: on a type byte of class 0 `decode_one` is the slider arm. -/
theorem decodeOne_of_class_slider (hs : statusOk s = true) (hc : classOf t = 0x0#8)
    (rest : List Byte) : decodeOne (s :: t :: rest) = (decodeSlider s t rest).outcome := by
  rw [statusOk_iff] at hs
  unfold classOf at hc
  by_cases ht : t = 0x07#8
  · match rest with
    | [] | [_] | [_, _] => simp [decodeOne, decodeSlider, sliderType, hs, ht]
    | high :: marker :: low :: tail =>
      have hlen : ¬ tail.length + 1 + 1 + 1 + 1 + 1 < 5 := by omega
      have hframe : (Decoded.frame (.slider (channelOf s) (valueOf high low))).outcome
          = .parsed (.sliderMove (channelOf s) ((high <<< 1) ||| (low >>> 6))) 5 := rfl
      simp [decodeOne, decodeSlider, sliderType, markerByte, hs, ht, hlen,
        apply_ite Decoded.outcome, hframe]
  · simp [decodeOne, decodeSlider, sliderType, hs, hc, ht]

/-- R106: on a type byte of class 4 `decode_one` is the channel-button arm. -/
theorem decodeOne_of_class_channelButton (hs : statusOk s = true) (hc : classOf t = 0x4#8)
    (rest : List Byte) : decodeOne (s :: t :: rest) = (decodeChannelButton s t rest).outcome := by
  rw [statusOk_iff] at hs
  unfold classOf at hc
  obtain ⟨hf, hk⟩ | ⟨f, k, hf, hk, -, -, hfk⟩ := channelButtonOf_cases t
  · simp [decodeOne, decodeChannelButton, hs, hc, hf, hk]
  · match rest with
    | [] => simp [decodeOne, decodeChannelButton, hs, hc, hf, hk]
    | e :: tail =>
      have hlen : ¬ tail.length + 1 + 1 + 1 < 3 := by omega
      have hframe (p : Bool) : (Decoded.frame (f (channelOf s) p)).outcome
          = .parsed (.channelButton (channelOf s) k p) 3 := by
        obtain ⟨hev, hl⟩ := hfk (channelOf s) p
        rw [outcome_frame hev, hl]
      by_cases he : e ≠ 0x00#8 ∧ e ≠ 0x7F#8 <;>
        simp [decodeOne, decodeChannelButton, hs, hc, hf, hk, hlen, pressedOf_eq_ite, he, hframe]

/-- R112: on a type byte of class 7 `decode_one` is the global-button arm. -/
theorem decodeOne_of_class_globalButton (hs : statusOk s = true) (hc : classOf t = 0x7#8)
    (rest : List Byte) : decodeOne (s :: t :: rest) = (decodeGlobalButton s t rest).outcome := by
  rw [statusOk_iff] at hs
  unfold classOf at hc
  by_cases hch : channelOf s = 0
  · obtain ⟨hf, hk⟩ | ⟨f, k, hf, hk, -, -, hfk⟩ := globalButtonOf_cases t
    · simp [decodeOne, decodeGlobalButton, hs, hc, hch, hf, hk]
    · match rest with
      | [] => simp [decodeOne, decodeGlobalButton, hs, hc, hch, hf, hk]
      | e :: tail =>
        have hlen : ¬ tail.length + 1 + 1 + 1 < 3 := by omega
        have hframe (p : Bool) : (Decoded.frame (f p)).outcome
            = .parsed (.globalButton k p) 3 := by
          obtain ⟨hev, hl⟩ := hfk p
          rw [outcome_frame hev, hl]
        by_cases he : e ≠ 0x00#8 ∧ e ≠ 0x7F#8 <;>
          simp [decodeOne, decodeGlobalButton, hs, hc, hch, hf, hk, hlen, pressedOf_eq_ite, he, hframe]
  · simp [decodeOne, decodeGlobalButton, hs, hc, hch]

end Agreement

/-- R101: the machine's decoder answers what the spec's `decode_one` answers. -/
theorem decodeOne_eq_outcome (b : List Byte) : decodeOne b = (decodeFrame b).outcome := by
  match b with
  | [] | [_] => rfl
  | s :: t :: rest =>
    simp only [decodeFrame]
    split_ifs with hs h0 h4 h7
    · exact decodeOne_of_class_slider hs h0 rest
    · exact decodeOne_of_class_channelButton hs h4 rest
    · exact decodeOne_of_class_globalButton hs h7 rest
    · have hs := (statusOk_iff s).mp hs
      unfold classOf at h0 h4 h7
      simp [decodeOne, hs, h0, h4, h7]
    · exact decodeOne_of_status_illegal hs rest

theorem decodeOne_eq_incomplete_iff (b : List Byte) :
    decodeOne b = .incomplete ↔ decodeFrame b = .incomplete := by
  rw [decodeOne_eq_outcome]
  cases h : decodeFrame b with
  | incomplete => simp
  | malformed r => simp
  | frame i =>
    obtain ⟨e, he⟩ := decodeFrame_frame_event h
    simp [outcome_frame he]

theorem decodeOne_of_malformed {b : List Byte} {r : FaultRecord}
    (h : decodeFrame b = .malformed r) : decodeOne b = .malformed r := by
  rw [decodeOne_eq_outcome, h, outcome_malformed]

/-! ### The buffers that wait for more bytes -/

theorem decodeSlider_eq_incomplete_iff (s t : Byte) (rest : List Byte) :
    decodeSlider s t rest = .incomplete ↔ t = 0x07#8 ∧ rest.length ≤ 2 := by
  by_cases ht : t = 0x07#8
  · match rest with
    | [] | [_] | [_, _] => simp [decodeSlider, sliderType, ht]
    | high :: marker :: low :: tail =>
      simp only [decodeSlider, sliderType, ht]
      split_ifs <;> simp_all
  · simp [decodeSlider, sliderType, ht]

theorem decodeChannelButton_eq_incomplete_iff (s t : Byte) (rest : List Byte) :
    decodeChannelButton s t rest = .incomplete ↔
      (channelButtonOf t).isSome = true ∧ rest = [] := by
  cases hf : channelButtonOf t with
  | none => simp [decodeChannelButton, hf]
  | some f =>
    match rest with
    | [] => simp [decodeChannelButton, hf]
    | e :: _ => cases hp : pressedOf e <;> simp [decodeChannelButton, hf, hp]

theorem decodeGlobalButton_eq_incomplete_iff (s t : Byte) (rest : List Byte) :
    decodeGlobalButton s t rest = .incomplete ↔
      channelOf s = 0 ∧ (globalButtonOf t).isSome = true ∧ rest = [] := by
  by_cases hch : channelOf s = 0
  · cases hf : globalButtonOf t with
    | none => simp [decodeGlobalButton, hch, hf]
    | some f =>
      match rest with
      | [] => simp [decodeGlobalButton, hch, hf]
      | e :: _ => cases hp : pressedOf e <;> simp [decodeGlobalButton, hch, hf, hp]
  · simp [decodeGlobalButton, hch]

/-- R69, R106: the channel keys' bytes are `0x46` to `0x4A`, all of class 4. -/
theorem channelKey_range : ∀ t : Byte,
    classOf t = 0x4#8 ∧ (channelButtonOf t).isSome = true ↔ 0x46 ≤ t.toNat ∧ t.toNat ≤ 0x4A := by
  decide

/-- R69, R112: the global keys' bytes are `0x70` to `0x73`, all of class 7. -/
theorem globalKey_range : ∀ t : Byte,
    classOf t = 0x7#8 ∧ (globalButtonOf t).isSome = true ↔ 0x70 ≤ t.toNat ∧ t.toNat ≤ 0x73 := by
  decide

/-- The decoder waits for more bytes behind a legal status byte exactly in an arm that waits (R105, R106, R112). -/
theorem decodeFrame_eq_incomplete_iff (s t : Byte) (rest : List Byte) :
    decodeFrame (s :: t :: rest) = .incomplete ↔ statusOk s = true ∧
      ((classOf t = 0x0#8 ∧ decodeSlider s t rest = .incomplete) ∨
       (classOf t = 0x4#8 ∧ decodeChannelButton s t rest = .incomplete) ∨
       (classOf t = 0x7#8 ∧ decodeGlobalButton s t rest = .incomplete)) := by
  simp only [decodeFrame]
  split_ifs <;> simp_all

/-- R61: the legal status byte of channel 0 is `0xB0`. -/
theorem channelOf_eq_zero_iff {s : Byte} (hs : statusOk s = true) : channelOf s = 0 ↔ s = 0xB0#8 := by
  refine ⟨fun hc => ?_, fun h => h ▸ rfl⟩
  rw [← statusOf_channelOf s hs, hc]
  rfl

/-- R22: the Incomplete buffers of two bytes and more. -/
theorem decodeOne_cons_cons_eq_incomplete_iff (s t : Byte) (rest : List Byte) :
    decodeOne (s :: t :: rest) = .incomplete ↔ (0xB0 ≤ s.toNat ∧ s.toNat ≤ 0xB7) ∧
      ((t = 0x07#8 ∧ rest.length ≤ 2) ∨
       (0x46 ≤ t.toNat ∧ t.toNat ≤ 0x4A ∧ rest = []) ∨
       (s = 0xB0#8 ∧ 0x70 ≤ t.toNat ∧ t.toNat ≤ 0x73 ∧ rest = [])) := by
  have hstatus : statusOk s = true ↔ 0xB0 ≤ s.toNat ∧ s.toNat ≤ 0xB7 := statusOk_iff s
  have hslider : classOf t = 0x0#8 ∧ t = 0x07#8 ∧ rest.length ≤ 2 ↔ t = 0x07#8 ∧ rest.length ≤ 2 :=
    and_iff_right_of_imp fun h => h.1 ▸ rfl
  rw [decodeOne_eq_incomplete_iff, decodeFrame_eq_incomplete_iff, ← hstatus]
  refine and_congr_right fun hs => ?_
  rw [decodeSlider_eq_incomplete_iff, decodeChannelButton_eq_incomplete_iff,
    decodeGlobalButton_eq_incomplete_iff, hslider, channelOf_eq_zero_iff hs]
  refine or_congr_right (or_congr ?_ ?_)
  · rw [← and_assoc, channelKey_range, and_assoc]
  · rw [and_left_comm, ← and_assoc (a := classOf t = 0x7#8), globalKey_range, and_assoc]

/-- Settles O9: a buffer of at least two bytes waits in the arm its type byte selects. -/
theorem incompleteBuffersExactly : Obligations.IncompleteBuffersExactly := by
  intro b
  match b with
  | [] | [_] => simp [decodeOne]
  | s :: t :: rest =>
    rw [decodeOne_cons_cons_eq_incomplete_iff]
    refine ⟨⟨fun ⟨hs, h⟩ => .inr ⟨s, t, rest, rfl, hs.1, hs.2, h⟩, ?_⟩, ?_⟩
    · rintro (hlen | ⟨s', t', rest', heq, h1, h2, h⟩)
      · simp at hlen
      · cases heq
        exact ⟨⟨h1, h2⟩, h⟩
    · rintro ⟨-, ⟨-, hlen⟩ | ⟨-, -, rfl⟩ | ⟨-, -, -, rfl⟩⟩
      · simp only [List.length_cons]; omega
      · simp
      · simp

end Sys2Proof
end

section
/-! PROOFS. The state between operations: the reset values and the buffer invariant (R22, R24, R36), FEED's precision at
frames (R170, R173, R210), the sticky fault (R211, R212), and the encoder's distance from the decoder (R29). -/

namespace Sys2Proof.Machine

/-! ### Reset (R36) -/

/-- An ACTIVE state with nothing pending meets the invariant. -/
theorem inv_of_empty {s : State} (hb : s.buf = []) (hf : s.fault = none) : s.Inv := by
  simp [State.Inv, hb, hf, decodeOne]

/-- Settles O47. -/
theorem resetMeetsTheBufferInvariant : Obligations.ResetMeetsTheBufferInvariant :=
  inv_of_empty rfl rfl

/-- Settles O48. -/
theorem resetValues : Obligations.ResetValues :=
  ⟨rfl, rfl, (mode_active_iff _).mpr rfl, fun s =>
    ⟨clearSession_buf s, clearSession_fault s, (mode_active_iff _).mpr (clearSession_fault s)⟩⟩

/-! ### The buffer invariant (R22, R24) -/

/-- The decode loop leaves an ACTIVE block where its decoder stopped: waiting, or with the frame it recorded. -/
theorem drain_inv {s t : State} (h : drain s = .next t) (ha : s.fault = none) : t.Inv := by
  obtain ⟨is, b, f, -, -, hd, hb⟩ := drain_spec ha
  rw [hd] at h
  cases h
  cases f with
  | none => exact (decodeOne_eq_incomplete_iff b).mpr hb
  | some r => exact decodeOne_of_malformed hb

theorem runFeed_inv {c : List Byte} {s t : State} (h : runFeed c s = .next t) (hi : s.Inv) :
    t.Inv := by
  obtain ⟨-, ⟨-, rfl⟩ | ⟨-, -, rfl⟩ | ⟨ha, -, -, hd⟩⟩ := runFeed_next h
  · exact hi
  · exact hi
  · exact drain_inv hd ha

/-- Settles O46, by the inversion of a step: only a FEED that decodes and CLEAR write the buffer or the fault. -/
theorem everyStepKeepsTheBufferInvariant : Obligations.EveryStepKeepsTheBufferInvariant := by
  intro s t hi h
  obtain ⟨-, rfl⟩ | ⟨c, rest, -, hf⟩ | ⟨rest, -, rfl⟩ | ⟨op, rest, o, -, -, -, rfl⟩ := step_next h
  · exact hi
  · exact runFeed_inv hf hi
  · exact inv_of_empty (clearSession_buf _) (clearSession_fault _)
  · exact hi

/-! ### A FEED that decodes (R170, R173, R210) -/

/-- Settles O29: the step is the decode loop on the pending bytes and the chunk. -/
theorem feedIsPreciseAtFrames : Obligations.FeedIsPreciseAtFrames := by
  intro s chunk rest hops ha hc hk
  obtain ⟨is, b, f, hdir, hbytes, hd, -⟩ :=
    drain_spec (s := { s with ops := rest, buf := s.buf ++ chunk }) ha
  exact ⟨is, b, f, hdir, hbytes, drain_inv hd ha, by rw [step_feed_active hops ha hc hk, hd]⟩

/-! ### The sticky fault (R211, R212) -/

/-- R174: whatever a FEED of a FAULTED block answers is the same state. -/
theorem runFeed_of_fault {c : List Byte} {s t : State} {r : FaultRecord} (h : runFeed c s = .next t)
    (hr : s.fault = some r) : t = s := by
  obtain ⟨-, ⟨-, ht⟩ | ⟨ha, -⟩ | ⟨ha, -⟩⟩ := runFeed_next h
  · exact ht
  · simp [ha] at hr
  · simp [ha] at hr

/-- Settles O34: a FAULTED block's step, other than CLEAR, holds, discards a chunk or replies. -/
theorem faultedBlockIsFrozen : Obligations.FaultedBlockIsFrozen := by
  intro s t r hr h hclear
  obtain ⟨-, rfl⟩ | ⟨c, rest, -, hf⟩ | ⟨rest, hops, -⟩ | ⟨op, rest, o, -, -, -, rfl⟩ := step_next h
  · exact ⟨hr, rfl, rfl⟩
  · obtain rfl := runFeed_of_fault hf hr
    exact ⟨hr, rfl, rfl⟩
  · exact absurd hops (hclear rest)
  · exact ⟨hr, rfl, rfl⟩

/-- An ACTIVE block faults in a FEED only. -/
theorem feed_of_step_faults {s t : State} (h : step s = .next t) (ha : s.fault = none)
    (ht : t.fault ≠ none) : ∃ chunk rest, s.ops = .feed chunk :: rest := by
  obtain ⟨-, rfl⟩ | ⟨c, rest, hops, -⟩ | ⟨rest, -, rfl⟩ | ⟨op, rest, o, -, -, -, rfl⟩ := step_next h
  · exact absurd ha ht
  · exact ⟨c, rest, hops⟩
  · exact absurd (clearSession_fault _) ht
  · exact absurd ha ht

/-- Settles O35: a record changes by CLEAR only, since a FAULTED block is frozen under any other operation. -/
theorem onlyFeedFaultsOnlyClearRecovers : Obligations.OnlyFeedFaultsOnlyClearRecovers := by
  refine fun s t h => ⟨feed_of_step_faults h, fun r hr ht => ?_⟩
  by_cases hclear : ∃ rest, s.ops = .clear :: rest
  · obtain ⟨rest, hops⟩ := hclear
    rw [step_op hops] at h
    cases h
    exact ⟨rest, hops, clearSession_fault _⟩
  · exact absurd (faultedBlockIsFrozen s t r hr h (not_exists.mp hclear)).1 ht

/-! ### Encoder and decoder (R29) -/

/-- An encoder operation commutes with any contents of the decoder. -/
theorem runOp_withDecoder {op : HostOp} (hfeed : ∀ chunk, op ≠ .feed chunk) (hclear : op ≠ .clear)
    (b : List Byte) (f : Option FaultRecord) (evs : List ControlEvent) (s : State) :
    runOp op (s.withDecoder b f evs) = mapNext (State.withDecoder b f evs) (runOp op s) := by
  cases op with
  | feed chunk => exact absurd rfl (hfeed chunk)
  | clear => exact absurd rfl hclear
  | encodeSlider c v => rfl
  | encodeLed c k on =>
    exact runEncodeLed_commutes (g := State.withDecoder b f evs) (fun _ => rfl) (fun _ _ => rfl) c k on s

/-- Settles O37: what an encoder operation writes by the inversion of a step, what it reads by commutation. -/
theorem encoderAndDecoderStateAreApart : Obligations.EncoderAndDecoderStateAreApart := by
  intro s op rest hops hfeed hclear
  refine ⟨fun t h => ?_, fun b f evs => ?_⟩
  · obtain ⟨hnil, -⟩ | ⟨c, _, hc, -⟩ | ⟨_, hc, -⟩ | ⟨_, _, o, hop, -, -, rfl⟩ := step_next h
    · simp [hops] at hnil
    · cases hops.symm.trans hc
      exact absurd rfl (hfeed c)
    · cases hops.symm.trans hc
      exact absurd rfl hclear
    · cases hops.symm.trans hop
      exact ⟨o, rfl⟩
  · rw [step_op (show (s.withDecoder b f evs).ops = op :: rest from hops), step_op hops]
    exact runOp_withDecoder hfeed hclear b f evs { s with ops := rest }

end Sys2Proof.Machine
end

section
/-! PROOFS. A stream entered inside a frame (R47): no byte behind the first of a frame is a status byte. -/

namespace Sys2Proof

theorem seven_bit_of_mem_tail_sliderBytes {s v x : Byte} (hx : x ∈ (sliderBytes s v).tail) :
    x ≤ 0x7F#8 := by
  simp only [sliderBytes, List.tail_cons, List.mem_cons, List.not_mem_nil, or_false] at hx
  obtain rfl | rfl | rfl | rfl := hx
  · decide
  · exact highOf_le v
  · decide
  · obtain h | h := lowOf_cases v <;> simp [h]

theorem seven_bit_of_mem_tail_buttonBytes {s : Byte} {k : KeyCode} {on : Bool} {x : Byte}
    (hx : x ∈ (buttonBytes s k on).tail) : x ≤ 0x7F#8 := by
  simp only [buttonBytes, List.tail_cons, List.mem_cons, List.not_mem_nil, or_false] at hx
  obtain rfl | rfl := hx
  · cases k <;> decide
  · cases on <;> decide

/-- R64 to R66: behind its status byte a frame has seven-bit bytes only. -/
theorem seven_bit_of_mem_tail_encode {i : Instr} {x : Byte} (hx : x ∈ (encode i).tail) :
    x ≤ 0x7F#8 := by
  cases i with
  | slider c v => exact seven_bit_of_mem_tail_sliderBytes hx
  | setslider c v => exact seven_bit_of_mem_tail_sliderBytes hx
  | _ => exact seven_bit_of_mem_tail_buttonBytes hx

/-- R61: a seven-bit byte is no status byte. -/
theorem not_statusOk_of_seven_bit {x : Byte} (h : x ≤ 0x7F#8) : ¬ statusOk x = true := by
  rw [statusOk_iff]
  bv_omega

/-- The frame entered at an inner offset begins with a byte that is no status byte. -/
theorem drop_encode_eq_cons {i : Instr} {k : Nat} (h0 : 0 < k) (hk : k < (encode i).length) :
    ∃ x bytes, (encode i).drop k = x :: bytes ∧ ¬ statusOk x = true := by
  refine ⟨(encode i)[k], (encode i).drop (k + 1), List.drop_eq_getElem_cons hk,
    not_statusOk_of_seven_bit (seven_bit_of_mem_tail_encode (i := i) ?_)⟩
  rw [← List.drop_one]
  exact List.mem_drop_iff_getElem.mpr ⟨k - 1, by omega, by congr 1; omega⟩

/-- Settles O13: the byte at the offset is read as the status byte, and it is none. The frame's direction plays no
part. -/
theorem misalignedStartIsInvalidChannel : Obligations.MisalignedStartIsInvalidChannel := by
  intro i k rest _ h0 hk hlen
  obtain ⟨x, bytes, hdrop, hx⟩ := drop_encode_eq_cons h0 hk
  rw [hdrop, List.cons_append] at hlen ⊢
  cases hb : bytes ++ rest with
  | nil => simp [hb] at hlen
  | cons y tail => exact decodeOne_of_status_illegal hx tail

end Sys2Proof
end

section
/-! PROOFS. The encoder's output is not fed back to the decoder (R53, R140). -/

namespace Sys2Proof.Machine

theorem acceptFrame_withReplies (l : List EncodeOutcome) (e : ControlEvent) (n : Nat) (s : State) :
    acceptFrame e n (s.withReplies l) = (acceptFrame e n s).withReplies l := by
  simp only [acceptFrame, withReplies_fault]
  cases s.fault <;> rfl

theorem runFeed_withReplies (l : List EncodeOutcome) (chunk : List Byte) (s : State) :
    runFeed chunk (s.withReplies l) = mapNext (State.withReplies l) (runFeed chunk s) :=
  runFeed_commutes (g := State.withReplies l) (fun _ => rfl) (fun _ => rfl) (fun _ => rfl) (fun _ => rfl)
    (fun _ _ => rfl) (acceptFrame_withReplies l) (fun _ _ => rfl) chunk s

/-- Settles O38: FEED commutes with another record of replies, and CLEAR does not look at it. -/
theorem decoderIgnoresReplies : Obligations.DecoderIgnoresReplies := by
  intro s op rest hops hop l
  rw [step_op (show (s.withReplies l).ops = op :: rest from hops), step_op hops]
  obtain ⟨chunk, rfl⟩ | rfl := hop
  · exact runFeed_withReplies l chunk { s with ops := rest }
  · rfl

end Sys2Proof.Machine
end

section
/-! PROOFS. The encoding: key codes and their bytes (R69), decoding undoes encoding (R64 to R71), and the inbound rows of
the opcode table are the decoder's frames (R77, R78). -/

namespace Sys2Proof

open Machine

/-! ### Key codes (R69) -/

theorem keyOf_keyByte (k : KeyCode) : keyOf (keyByte k) = some k := by
  cases k <;> rfl

theorem keyByte_of_channelKeyOf {t : Byte} {k : KeyCode} (h : channelKeyOf t = some k) :
    keyByte k = t := by
  obtain ⟨-, hn⟩ | ⟨_, k', -, hk', -, hb, -⟩ := channelButtonOf_cases t
  · simp [hn] at h
  · cases hk'.symm.trans h
    exact hb

theorem keyByte_of_globalKeyOf {t : Byte} {k : KeyCode} (h : globalKeyOf t = some k) :
    keyByte k = t := by
  obtain ⟨-, hn⟩ | ⟨_, k', -, hk', -, hb, -⟩ := globalButtonOf_cases t
  · simp [hn] at h
  · cases hk'.symm.trans h
    exact hb

theorem keyByte_of_keyOf {t : Byte} {k : KeyCode} (h : keyOf t = some k) : keyByte k = t := by
  obtain hc | ⟨-, hg⟩ := Option.or_eq_some_iff.mp h
  · exact keyByte_of_channelKeyOf hc
  · exact keyByte_of_globalKeyOf hg

/-- R69: a channel key has class nibble 4, a global key class nibble 7. -/
theorem classOf_keyByte (k : KeyCode) :
    classOf (keyByte k) = if isChannelKey k then 0x4#8 else 0x7#8 := by
  cases k <;> rfl

theorem toNat_classOf (t : Byte) : (classOf t).toNat = t.toNat / 16 := by
  simp [classOf, Nat.shiftRight_eq_div_pow]

/-- Settles O19: the bytes as R69 writes them; `key_of` undoes `key_byte` key by key, and answers no other byte. -/
theorem keyCodesAndBytesCorrespond : Obligations.KeyCodesAndBytesCorrespond := by
  refine ⟨rfl, rfl, rfl, rfl, rfl, rfl, rfl, rfl, rfl, fun k => ?_, fun k => ?_, keyOf_keyByte,
    fun b k => keyByte_of_keyOf⟩
  · cases k <;> decide
  · rw [← toNat_classOf, classOf_keyByte]
    cases isChannelKey k <;> rfl

/-- Settles O1: the model evaluates the five words. -/
theorem knownBytesDecode : Obligations.KnownBytesDecode := ⟨rfl, rfl, rfl, rfl, rfl⟩

/-! ### The decoder on the bytes of an inbound frame -/

theorem classOf_of_channelButtonOf {t : Byte} {f : Channel → Bool → Instr}
    (h : channelButtonOf t = some f) : classOf t = 0x4#8 := by
  obtain ⟨hn, -⟩ | ⟨_, k, -, -, hk, rfl, -⟩ := channelButtonOf_cases t
  · simp [hn] at h
  · simp [classOf_keyByte, hk]

theorem classOf_of_globalButtonOf {t : Byte} {f : Bool → Instr}
    (h : globalButtonOf t = some f) : classOf t = 0x7#8 := by
  obtain ⟨hn, -⟩ | ⟨_, k, -, -, hk, rfl, -⟩ := globalButtonOf_cases t
  · simp [hn] at h
  · simp [classOf_keyByte, hk]

/-- R64, R105. -/
theorem decodeFrame_encode_slider (c : Channel) (v : Byte) (tail : List Byte) :
    decodeFrame (encode (.slider c v) ++ tail) = .frame (.slider c v) := by
  have hclass : classOf sliderType = 0x0#8 := rfl
  have hlow : lowOf v ≠ 0x00#8 → lowOf v = 0x40#8 := (lowOf_cases v).resolve_left
  have hhigh : ¬ 0x7F#8 < highOf v := BitVec.not_lt.mpr (highOf_le v)
  simpa [encode, sliderBytes, decodeFrame, decodeSlider, statusOk_statusOf, hclass, hhigh,
    channelOf_statusOf, valueOf_halves] using hlow

/-- R65, R106. -/
theorem decodeFrame_encode_channelButton {t : Byte} {f : Channel → Bool → Instr}
    (h : channelButtonOf t = some f) (c : Channel) (p : Bool) (tail : List Byte) :
    decodeFrame (encode (f c p) ++ tail) = .frame (f c p) := by
  simp [(encode_channelButtonOf h c p).1, decodeFrame, decodeChannelButton, statusOk_statusOf,
    classOf_of_channelButtonOf h, h, pressedOf_eventByte, channelOf_statusOf]

/-- R66, R112. -/
theorem decodeFrame_encode_globalButton {t : Byte} {f : Bool → Instr}
    (h : globalButtonOf t = some f) (p : Bool) (tail : List Byte) :
    decodeFrame (encode (f p) ++ tail) = .frame (f p) := by
  have hs : statusOk 0xB0#8 = true := rfl
  have hc : channelOf 0xB0#8 = 0 := rfl
  simp [(encode_globalButtonOf h p).1, decodeFrame, decodeGlobalButton, hs, hc,
    classOf_of_globalButtonOf h, h, pressedOf_eventByte]

/-- The inbound frame kinds by their layout: a slider, or a button with its key's byte `t`. An inbound frame's event
tells which. -/
theorem inbound_cases {i : Instr} (hi : i.direction = .inbound) :
    (∃ c v, i = .slider c v) ∨
    (∃ t f c p, channelButtonOf t = some f ∧ i = f c p) ∨
    ∃ t f p, globalButtonOf t = some f ∧ i = f p := by
  obtain ⟨e, he⟩ := Option.isSome_iff_exists.mp ((event?_isSome_iff i).mpr hi)
  cases e with
  | sliderMove c v => exact .inl ⟨c, v, by cases i <;> cases he; rfl⟩
  | channelButton c k p =>
    obtain ⟨f, hf⟩ : ∃ f, channelButtonOf (keyByte k) = some f ∧ i = f c p := by
      cases i <;> cases he <;> exact ⟨_, rfl, rfl⟩
    exact .inr (.inl ⟨keyByte k, f, c, p, hf⟩)
  | globalButton k p =>
    obtain ⟨f, hf⟩ : ∃ f, globalButtonOf (keyByte k) = some f ∧ i = f p := by
      cases i <;> cases he <;> exact ⟨_, rfl, rfl⟩
    exact .inr (.inr ⟨keyByte k, f, p, hf⟩)

/-- The inbound decoder undoes the encoder, whatever stands behind the frame. -/
theorem decodeFrame_encode_append {i : Instr} (hi : i.direction = .inbound) (tail : List Byte) :
    decodeFrame (encode i ++ tail) = .frame i := by
  obtain ⟨c, v, rfl⟩ | ⟨t, f, c, p, hf, rfl⟩ | ⟨t, f, p, hf, rfl⟩ := inbound_cases hi
  · exact decodeFrame_encode_slider c v tail
  · exact decodeFrame_encode_channelButton hf c p tail
  · exact decodeFrame_encode_globalButton hf p tail

/-! ### The model's reading of an outbound command (log 15) -/

theorem decodeCommand_sliderBytes_append (c : Channel) (v : Byte) (tail : List Byte) :
    decodeCommand (sliderBytes (statusOf c) v ++ tail) = some (.setslider c.val v.toNat) := by
  simp [sliderBytes, decodeCommand, statusOk_statusOf, lowOf_cases v, highOf_le v,
    channelOf_statusOf, valueOf_halves]

theorem decodeCommand_buttonBytes_append (c : Channel) (k : KeyCode) (on : Bool) (tail : List Byte) :
    decodeCommand (buttonBytes (statusOf c) k on ++ tail) = some (ledInstr k on c.val) := by
  have hk : keyByte k ≠ sliderType := by cases k <;> decide
  simp [buttonBytes, decodeCommand, statusOk_statusOf, hk, keyOf_keyByte, pressedOf_eventByte,
    channelOf_statusOf]

theorem encode_ledInstr (k : KeyCode) (on : Bool) (c : Int) :
    encode (ledInstr k on c) = buttonBytes (statusOfInt c) k on := by
  cases k <;> cases on <;> rfl

theorem wf_ledInstr (k : KeyCode) (on : Bool) (c : Int) :
    (ledInstr k on c).wf = channelInRange c := by
  cases k <;> cases on <;> rfl

/-- The operation that carries an LED command names its key and switch. -/
theorem eq_ledInstr_of_hostOp {i : Instr} {c : Int} {k : KeyCode} {on : Bool}
    (h : i.hostOp = .encodeLed c (.code k) on) : i = ledInstr k on c := by
  cases i <;> cases h <;> rfl

/-- The outbound frame kinds by their layout. -/
theorem outbound_cases {i : Instr} (hi : i.direction = .outbound) :
    (∃ c v, i = .setslider c v) ∨ ∃ k on c, i = ledInstr k on c := by
  cases i <;> cases hi
  case setslider c v => exact .inl ⟨c, v, rfl⟩
  all_goals exact .inr ⟨_, _, _, eq_ledInstr_of_hostOp rfl⟩

/-- The reading of the outbound rows undoes the encoder on valid operands, whatever stands behind the frame. -/
theorem decodeCommand_encode_append {i : Instr} (hi : i.direction = .outbound) (hw : WellFormed i)
    (tail : List Byte) : decodeCommand (encode i ++ tail) = some i := by
  obtain ⟨c, v, rfl⟩ | ⟨k, on, c, rfl⟩ := outbound_cases hi
  · obtain ⟨hc, hv⟩ := Bool.and_eq_true_iff.mp hw
    obtain ⟨ch, rfl, hs, -⟩ := statusOfInt_spec hc
    simp only [encode, hs, decodeCommand_sliderBytes_append, toNat_ofInt_value hv]
  · obtain ⟨ch, rfl, hs, -⟩ := statusOfInt_spec ((wf_ledInstr k on c).symm.trans hw)
    rw [encode_ledInstr, hs, decodeCommand_buttonBytes_append]

/-- Settles O16: each direction's decoder undoes the encoder. -/
theorem decodeOfEncode : Obligations.DecodeOfEncode := by
  intro i tail hw
  cases hi : i.direction with
  | inbound => exact decode_inbound_eq_some_iff.mpr (decodeFrame_encode_append hi tail)
  | outbound => exact decodeCommand_encode_append hi hw tail

/-! ### The inbound rows of the opcode table (R77, R78) -/

theorem matchesUnder_nil (b : List Byte) : matchesUnder [] [] b = true := rfl

theorem matchesUnder_cons_iff (m p : Byte) (ms ps b : List Byte) :
    matchesUnder (m :: ms) (p :: ps) b = true ↔
      ∃ x tail, b = x :: tail ∧ x &&& m = p ∧ matchesUnder ms ps tail = true := by
  cases b <;> simp [matchesUnder]

theorem and_mask_all : ∀ x : Byte, x &&& 0xFF#8 = x := by decide

/-- R61, R79: the mask of a status byte leaves the channel open. -/
theorem and_mask_status_iff : ∀ x : Byte, x &&& 0xF8#8 = 0xB0#8 ↔ ∃ c : Channel, x = statusOf c := by
  decide

/-- R64, R79: the masks of the high and low bytes admit exactly the halves of a value. -/
theorem and_mask_halves_iff (h l : Byte) : h &&& 0x80#8 = 0x00#8 ∧ l &&& 0xBF#8 = 0x00#8 ↔
    ∃ v, h = highOf v ∧ l = lowOf v := by
  have hhigh : ∀ h : Byte, h &&& 0x80#8 = 0x00#8 ↔ h ≤ 0x7F#8 := by decide
  have hlow : ∀ l : Byte, l &&& 0xBF#8 = 0x00#8 ↔ l = 0x00#8 ∨ l = 0x40#8 := by decide
  rw [hhigh, hlow]
  refine ⟨?_, ?_⟩
  · rintro ⟨hh, rfl | rfl⟩
    · exact ⟨_, (highOf_valueOf h hh).1.symm, (lowOf_valueOf h).1.symm⟩
    · exact ⟨_, (highOf_valueOf h hh).2.symm, (lowOf_valueOf h).2.symm⟩
  · rintro ⟨v, rfl, rfl⟩
    exact ⟨highOf_le v, lowOf_cases v⟩

/-- The `match` word of a button row: status `0xB0`, the key's byte, the event byte. -/
def buttonWord (t : Byte) (p : Bool) : Nat := 0xB00000 + 0x100 * t.toNat + (eventByte p).toNat

theorem wordBytes_buttonWord (p : Bool) :
    ∀ t : Byte, wordBytes 3 (buttonWord t p) = [0xB0#8, t, eventByte p] := by
  cases p <;> decide

theorem row_channelButtonOf {t : Byte} {f : Channel → Bool → Instr} (h : channelButtonOf t = some f)
    (c : Channel) (p : Bool) : (f c p).row = ⟨.inbound, 3, buttonWord t p, 0xF8FFFF⟩ := by
  unfold channelButtonOf at h
  split_ifs at h <;> cases h <;> subst_vars <;> cases p <;> rfl

theorem row_globalButtonOf {t : Byte} {f : Bool → Instr} (h : globalButtonOf t = some f)
    (p : Bool) : (f p).row = ⟨.inbound, 3, buttonWord t p, 0xFFFFFF⟩ := by
  unfold globalButtonOf at h
  split_ifs at h <;> cases h <;> subst_vars <;> cases p <;> rfl

theorem slider_row_selects_iff (c : Channel) (v : Byte) (b : List Byte) :
    (Instr.slider c v).row.selects b = true ↔ ∃ c' v' tail, b = encode (.slider c' v') ++ tail := by
  have hm : wordBytes 5 0xF8FF80FFBF = [0xF8#8, 0xFF#8, 0x80#8, 0xFF#8, 0xBF#8] := by decide
  have hp : wordBytes 5 0xB007002700 = [0xB0#8, sliderType, 0x00#8, markerByte, 0x00#8] := by decide
  simp only [OpcodeRow.selects, Instr.row, hm, hp, matchesUnder_cons_iff, matchesUnder_nil,
    and_mask_all, and_mask_status_iff, and_true]
  constructor
  · rintro ⟨_, _, rfl, ⟨c', rfl⟩, _, _, rfl, rfl, h, _, rfl, hh, _, _, rfl, rfl, l, tail, rfl, hl⟩
    obtain ⟨v', rfl, rfl⟩ := (and_mask_halves_iff h l).mp ⟨hh, hl⟩
    exact ⟨c', v', tail, rfl⟩
  · rintro ⟨c', v', tail, rfl⟩
    obtain ⟨hh, hl⟩ := (and_mask_halves_iff _ _).mpr ⟨v', rfl, rfl⟩
    exact ⟨_, _, rfl, ⟨c', rfl⟩, _, _, rfl, rfl, _, _, rfl, hh, _, _, rfl, rfl, _, tail, rfl, hl⟩

theorem channelButton_row_selects_iff {t : Byte} {f : Channel → Bool → Instr}
    (hf : channelButtonOf t = some f) (c : Channel) (p : Bool) (b : List Byte) :
    (f c p).row.selects b = true ↔ ∃ c' tail, b = encode (f c' p) ++ tail := by
  have hm : wordBytes 3 0xF8FFFF = [0xF8#8, 0xFF#8, 0xFF#8] := by decide
  simp only [OpcodeRow.selects, row_channelButtonOf hf, hm, wordBytes_buttonWord,
    matchesUnder_cons_iff, matchesUnder_nil, and_mask_all, and_mask_status_iff, and_true,
    encode_channelButtonOf hf]
  constructor
  · rintro ⟨_, _, rfl, ⟨c', rfl⟩, _, _, rfl, rfl, _, tail, rfl, rfl⟩
    exact ⟨c', tail, rfl⟩
  · rintro ⟨c', tail, rfl⟩
    exact ⟨_, _, rfl, ⟨c', rfl⟩, _, _, rfl, rfl, _, tail, rfl, rfl⟩

theorem globalButton_row_selects_iff {t : Byte} {f : Bool → Instr}
    (hf : globalButtonOf t = some f) (p : Bool) (b : List Byte) :
    (f p).row.selects b = true ↔ ∃ tail, b = encode (f p) ++ tail := by
  have hm : wordBytes 3 0xFFFFFF = [0xFF#8, 0xFF#8, 0xFF#8] := by decide
  simp only [OpcodeRow.selects, row_globalButtonOf hf, hm, wordBytes_buttonWord,
    matchesUnder_cons_iff, matchesUnder_nil, and_mask_all, and_true, encode_globalButtonOf hf]
  constructor
  · rintro ⟨_, _, rfl, rfl, _, _, rfl, rfl, _, tail, rfl, rfl⟩
    exact ⟨tail, rfl⟩
  · rintro ⟨tail, rfl⟩
    exact ⟨_, _, rfl, rfl, _, _, rfl, rfl, _, tail, rfl, rfl⟩

/-- An inbound frame matches its own row, whatever stands behind it. -/
theorem row_selects_encode_append {i : Instr} (hi : i.direction = .inbound) (tail : List Byte) :
    i.row.selects (encode i ++ tail) = true := by
  obtain ⟨c, v, rfl⟩ | ⟨t, f, c, p, hf, rfl⟩ | ⟨t, f, p, hf, rfl⟩ := inbound_cases hi
  · exact (slider_row_selects_iff c v _).mpr ⟨c, v, tail, rfl⟩
  · exact (channelButton_row_selects_iff hf c p _).mpr ⟨c, tail, rfl⟩
  · exact (globalButton_row_selects_iff hf p _).mpr ⟨tail, rfl⟩

/-- A buffer an inbound row selects begins with a frame of that row. -/
theorem exists_encode_of_row_selects {i : Instr} (hi : i.direction = .inbound) {b : List Byte}
    (h : i.row.selects b = true) :
    ∃ j tail, j.direction = .inbound ∧ j.row = i.row ∧ b = encode j ++ tail := by
  obtain ⟨c, v, rfl⟩ | ⟨t, f, c, p, hf, rfl⟩ | ⟨t, f, p, hf, rfl⟩ := inbound_cases hi
  · obtain ⟨c', v', tail, rfl⟩ := (slider_row_selects_iff c v b).mp h
    exact ⟨.slider c' v', tail, rfl, rfl, rfl⟩
  · obtain ⟨c', tail, rfl⟩ := (channelButton_row_selects_iff hf c p b).mp h
    exact ⟨f c' p, tail, (encode_channelButtonOf hf c' p).2,
      by rw [row_channelButtonOf hf, row_channelButtonOf hf], rfl⟩
  · obtain ⟨tail, rfl⟩ := (globalButton_row_selects_iff hf p b).mp h
    exact ⟨f p, tail, hi, rfl, rfl⟩

/-- `inboundRows` lists the rows of the inbound frame kinds and no other (R78). -/
theorem mem_inboundRows_iff (r : OpcodeRow) :
    r ∈ inboundRows ↔ ∃ i : Instr, i.row = r ∧ i.direction = .inbound := by
  constructor
  · revert r
    simp only [inboundRows, List.cons_append, List.nil_append, List.forall_mem_cons,
      List.not_mem_nil, IsEmpty.forall_iff, implies_true, and_true]
    and_intros <;> exact ⟨_, rfl, rfl⟩
  · rintro ⟨i, rfl, hi⟩
    cases i <;> cases hi <;> simp only [Instr.row] <;> decide

/-- Settles O15: the decoder answers the frame a buffer begins with, and an inbound row selects the buffers that begin
with a frame of that row. -/
theorem inboundRowsDecideFrames : Obligations.InboundRowsDecideFrames := by
  refine ⟨fun b i h => ?_, fun b r hr hsel => ?_⟩
  · obtain ⟨tail, rfl, hi⟩ := decodeFrame_frame h
    exact ⟨(mem_inboundRows_iff _).mpr ⟨i, rfl, hi⟩, row_selects_encode_append hi tail⟩
  · obtain ⟨i, rfl, hi⟩ := (mem_inboundRows_iff r).mp hr
    obtain ⟨j, tail, hj, hrow, rfl⟩ := exists_encode_of_row_selects hi hsel
    exact ⟨j, decodeFrame_encode_append hj tail, hrow⟩

end Sys2Proof
end

section
/-! PROOFS. The frame decoder (40_frame_decoder.md): what each arm answers, what an outcome says of the bytes, which bytes
it depends on; the meaning of an inbound frame; and the first byte of a session's buffer. -/

namespace Sys2Proof

open Machine

/-! ### Both decoders, and the checks before the type byte's arm (R101 to R104, R117) -/

/-- Settles O14. -/
theorem machineDecoderIsDecodeOne : Obligations.MachineDecoderIsDecodeOne := decodeOne_eq_outcome

/-- Settles O2: the decoder looks at no byte before there are two. -/
theorem shortBufferIsIncomplete : Obligations.ShortBufferIsIncomplete := by
  intro b hb
  match b with
  | [] | [_] => rfl
  | _ :: _ :: _ => simp at hb

theorem statusOk_of_range {s : Byte} (h0 : 0xB0 ≤ s.toNat) (h7 : s.toNat ≤ 0xB7) :
    statusOk s = true := (statusOk_iff s).mpr ⟨h0, h7⟩

theorem statusOf_range (c : Channel) : 0xB0 ≤ (statusOf c).toNat ∧ (statusOf c).toNat ≤ 0xB7 :=
  (statusOk_iff _).mp (statusOk_statusOf c)

theorem classOf_eq_iff (t n : Byte) : classOf t = n ↔ t.toNat / 16 = n.toNat := by
  rw [← BitVec.toNat_inj, toNat_classOf]

/-- Settles O7: the three class tests fail. -/
theorem unknownClassIsMalformed : Obligations.UnknownClassIsMalformed := by
  intro s t rest h0 h7 hslider hchannel hglobal
  simp [decodeOne_eq_outcome, decodeFrame, statusOk_of_range h0 h7, classOf_eq_iff, hslider,
    hchannel, hglobal]

/-! ### A parsed outcome is a frame at the front of the buffer -/

/-- An event comes from an inbound frame only. -/
theorem inbound_of_event {i : Instr} {e : ControlEvent} (h : i.event? = some e) :
    i.direction = .inbound :=
  (event?_isSome_iff i).mp (by simp [h])

/-- `decode_one` parses exactly the buffers that begin with a frame, and answers its event and length. -/
theorem decodeOne_eq_parsed_iff {b : List Byte} {e : ControlEvent} {c : Nat} :
    decodeOne b = .parsed e c ↔
      ∃ i tail, i.event? = some e ∧ i.length = c ∧ b = encode i ++ tail := by
  rw [decodeOne_eq_outcome]
  constructor
  · intro h
    cases hb : decodeFrame b with
    | incomplete => simp [hb] at h
    | malformed r => simp [hb] at h
    | frame i =>
      obtain ⟨e', he⟩ := decodeFrame_frame_event hb
      obtain ⟨tail, htail, -⟩ := decodeFrame_frame hb
      rw [hb, outcome_frame he] at h
      cases h
      exact ⟨i, tail, he, rfl, htail⟩
  · rintro ⟨i, tail, he, rfl, rfl⟩
    rw [decodeFrame_encode_append (inbound_of_event he), outcome_frame he]

/-! The bytes of a frame, by the event it reports (R64 to R66). -/

theorem encode_of_sliderMove {i : Instr} {c : Channel} {v : Byte}
    (h : i.event? = some (.sliderMove c v)) : encode i = sliderBytes (statusOf c) v := by
  cases i <;> cases h; rfl

theorem encode_of_channelButton {i : Instr} {c : Channel} {k : KeyCode} {p : Bool}
    (h : i.event? = some (.channelButton c k p)) :
    isChannelKey k = true ∧ encode i = buttonBytes (statusOf c) k p := by
  cases i <;> cases h <;> exact ⟨rfl, rfl⟩

theorem encode_of_globalButton {i : Instr} {k : KeyCode} {p : Bool}
    (h : i.event? = some (.globalButton k p)) :
    isChannelKey k = false ∧ encode i = buttonBytes 0xB0#8 k p := by
  cases i <;> cases h <;> exact ⟨rfl, rfl⟩

/-- R61: a channel is its status byte less `0xB0`. -/
theorem val_eq_statusOf_sub (c : Channel) : c.val = (statusOf c).toNat - 0xB0 := by
  rw [← channelOf_val _ (statusOk_statusOf c), channelOf_statusOf]

/-- Settles O3: a parsed frame's first byte is the status byte of its event's channel. -/
theorem statusByteChecked : Obligations.StatusByteChecked := by
  refine fun s t rest => ⟨fun hs => ?_, fun c v n h => ?_, fun c k p n h => ?_⟩
  · exact decodeOne_of_status_illegal (fun hok => hs ((statusOk_iff s).mp hok)) rest
  · obtain ⟨i, tail, he, -, hb⟩ := decodeOne_eq_parsed_iff.mp h
    rw [encode_of_sliderMove he] at hb
    cases hb
    exact val_eq_statusOf_sub c
  · obtain ⟨i, tail, he, -, hb⟩ := decodeOne_eq_parsed_iff.mp h
    rw [(encode_of_channelButton he).2] at hb
    cases hb
    exact val_eq_statusOf_sub c

/-- Settles O12: the buffer begins with the bytes of the event's frame. -/
theorem parsedFramePassedEveryCheck : Obligations.ParsedFramePassedEveryCheck := by
  intro b e n h
  obtain ⟨i, tail, he, -, rfl⟩ := decodeOne_eq_parsed_iff.mp h
  cases e with
  | sliderMove c v =>
    rw [encode_of_sliderMove he]
    exact ⟨⟨_, rfl, statusOf_range c⟩, rfl, rfl,
      (lowOf_cases v).imp (congrArg some) (congrArg some), _, rfl, highOf_le v⟩
  | channelButton c k p =>
    obtain ⟨hk, hbytes⟩ := encode_of_channelButton he
    rw [hbytes]
    exact ⟨⟨_, rfl, statusOf_range c⟩, hk, rfl, rfl⟩
  | globalButton k p =>
    obtain ⟨hk, hbytes⟩ := encode_of_globalButton he
    rw [hbytes]
    exact ⟨⟨_, rfl, by decide⟩, hk, rfl, rfl, rfl⟩

/-- Settles O10: the count is the length of the frame the buffer begins with, and what stands behind it is free. -/
theorem consumedIsTheFrameLength : Obligations.ConsumedIsTheFrameLength := by
  intro b e c h
  obtain ⟨i, tail, he, rfl, rfl⟩ := decodeOne_eq_parsed_iff.mp h
  refine ⟨?_, ?_, fun tail' => decodeOne_eq_parsed_iff.mpr ⟨i, tail', he, rfl, ?_⟩⟩
  · cases i <;> cases he <;> rfl
  · simp [length_encode]
  · rw [← length_encode, List.take_left]

/-! ### The bytes an outcome depends on (R118) -/

/-- Once `decode_one` has judged a buffer, bytes behind it make no difference. -/
theorem decodeOne_append {b : List Byte} (h : decodeOne b ≠ .incomplete) (tail : List Byte) :
    decodeOne (b ++ tail) = decodeOne b := by
  rw [decodeOne_eq_outcome, decodeOne_eq_outcome,
    decodeFrame_append (mt (decodeOne_eq_incomplete_iff b).mpr h)]

theorem decodeOne_eq_of_prefix {p b : List Byte} (hp : p <+: b) (h : decodeOne p ≠ .incomplete) :
    decodeOne b = decodeOne p := by
  obtain ⟨tail, rfl⟩ := hp
  exact decodeOne_append h tail

/-- A buffer that waits, with its type byte in, is shorter than the frame that byte tells of (R22, R63). -/
theorem length_lt_frameLength_of_incomplete {b : List Byte} (h : decodeOne b = .incomplete)
    (hlen : 2 ≤ b.length) : b.length < frameLength b := by
  match b with
  | [] | [_] => simp at hlen
  | s :: t :: rest =>
    have hthree : 3 ≤ frameLength (s :: t :: rest) := by unfold frameLength; split <;> decide
    obtain ⟨-, ⟨rfl, hrest⟩ | ⟨-, -, rfl⟩ | ⟨-, -, -, rfl⟩⟩ :=
      (decodeOne_cons_cons_eq_incomplete_iff s t rest).mp h
    · have hfive : frameLength (s :: 0x07#8 :: rest) = 5 := by simp [frameLength, classOf]
      simp only [List.length_cons, hfive]
      omega
    · exact hthree
    · exact hthree

/-- The frame's own bytes decide: if they wait, they are all there is. -/
theorem decodeOne_take_frameLength {b : List Byte} (hlen : 2 ≤ b.length) :
    decodeOne (b.take (frameLength b)) = decodeOne b := by
  by_cases h : decodeOne (b.take (frameLength b)) = .incomplete
  · have htwo := two_le_frameLength b
    have hlt := length_lt_frameLength_of_incomplete h (by rw [List.length_take]; omega)
    rw [frameLength_take htwo, List.length_take] at hlt
    rw [List.take_of_length_le (by omega)]
  · exact (decodeOne_eq_of_prefix (List.take_prefix _ b) h).symm

/-- An initial part that lacks a byte of the parsed frame waits, since it holds no frame of that length. -/
theorem decodeOne_short_prefix {p b : List Byte} {e : ControlEvent} {c : Nat}
    (h : decodeOne b = .parsed e c) (hp : p <+: b) (hlen : p.length < c) :
    decodeOne p = .incomplete := by
  by_contra hn
  rw [decodeOne_eq_of_prefix hp hn] at h
  have hle := (consumedIsTheFrameLength p e c h).2.1
  omega

/-- An initial part that holds the parsed frame has the buffer's outcome. -/
theorem decodeOne_long_prefix {p b : List Byte} {e : ControlEvent} {c : Nat}
    (h : decodeOne b = .parsed e c) (hp : p <+: b) (hlen : c ≤ p.length) :
    decodeOne p = .parsed e c := by
  obtain ⟨i, tail, he, rfl, rfl⟩ := decodeOne_eq_parsed_iff.mp h
  obtain ⟨tail', rfl⟩ : encode i <+: p :=
    List.prefix_of_prefix_length_le (List.prefix_append _ tail) hp (by rwa [length_encode])
  exact decodeOne_eq_parsed_iff.mpr ⟨i, tail', he, rfl, rfl⟩

/-- Settles O8. -/
theorem prefixesAgree : Obligations.PrefixesAgree := by
  refine fun b => ⟨fun hlen => (decodeOne_take_frameLength hlen).symm, fun e c h p hp => ?_,
    fun r h p hp => ?_⟩
  · split_ifs with hlen
    · exact decodeOne_short_prefix h hp hlen
    · exact decodeOne_long_prefix h hp (not_lt.mp hlen)
  · refine or_iff_not_imp_left.mpr fun hn => ?_
    rw [← decodeOne_eq_of_prefix hp hn, h]

/-! ### The record of a malformed frame (R121, decision D9) -/

/-- How many bytes the failed check examined, told from the field the record names. -/
def examinedLength : Option FieldId → Nat
  | none => 2
  | some .event => 3
  | some .marker | some .low | some .high => 5

/-- The record names a field exactly for a bad field value, and holds the bytes the failed check examined. -/
def HoldsExaminedPart (b : List Byte) (r : FaultRecord) : Prop :=
  (r.field = none ↔ r.reason ≠ .invalidFieldValue) ∧
    r.bytes = b.take (examinedLength r.field) ∧ examinedLength r.field ≤ b.length

/-- A record of the type byte's or the status byte's check. -/
theorem holdsExaminedPart_none {reason : Reason} (h : reason ≠ .invalidFieldValue) (s t : Byte)
    (rest : List Byte) : HoldsExaminedPart (s :: t :: rest) ⟨reason, none, [s, t]⟩ :=
  ⟨iff_of_true rfl h, rfl, by simp [examinedLength]⟩

theorem holdsExaminedPart_event (s t e : Byte) (tail : List Byte) :
    HoldsExaminedPart (s :: t :: e :: tail) ⟨.invalidFieldValue, some .event, [s, t, e]⟩ :=
  ⟨by simp, rfl, by simp [examinedLength]⟩

theorem decodeSlider_malformed {s t : Byte} {rest : List Byte} {r : FaultRecord}
    (h : decodeSlider s t rest = .malformed r) : HoldsExaminedPart (s :: t :: rest) r := by
  by_cases ht : t ≠ sliderType
  · simp only [decodeSlider, if_pos ht] at h
    cases h
    exact holdsExaminedPart_none (by decide) s t rest
  · match rest with
    | [] | [_] | [_, _] => simp [decodeSlider, ht] at h
    | high :: marker :: low :: tail =>
      simp only [decodeSlider, if_neg ht] at h
      split_ifs at h <;> cases h <;> exact ⟨by simp, rfl, by simp [examinedLength]⟩

theorem decodeChannelButton_malformed {s t : Byte} {rest : List Byte} {r : FaultRecord}
    (h : decodeChannelButton s t rest = .malformed r) : HoldsExaminedPart (s :: t :: rest) r := by
  unfold decodeChannelButton at h
  split at h
  · cases h
    exact holdsExaminedPart_none (by decide) s t rest
  · split at h
    · cases h
    · split at h <;> cases h
      exact holdsExaminedPart_event s t _ _

theorem decodeGlobalButton_malformed {s t : Byte} {rest : List Byte} {r : FaultRecord}
    (h : decodeGlobalButton s t rest = .malformed r) : HoldsExaminedPart (s :: t :: rest) r := by
  unfold decodeGlobalButton at h
  split at h
  · cases h
    exact holdsExaminedPart_none (by decide) s t rest
  · split at h
    · cases h
      exact holdsExaminedPart_none (by decide) s t rest
    · split at h
      · cases h
      · split at h <;> cases h
        exact holdsExaminedPart_event s t _ _

theorem decodeFrame_malformed {b : List Byte} {r : FaultRecord} (h : decodeFrame b = .malformed r) :
    HoldsExaminedPart b r := by
  match b with
  | [] | [_] => cases h
  | s :: t :: rest =>
    simp only [decodeFrame] at h
    split_ifs at h
    · exact decodeSlider_malformed h
    · exact decodeChannelButton_malformed h
    · exact decodeGlobalButton_malformed h
    · cases h
      exact holdsExaminedPart_none (by decide) s t rest
    · cases h
      exact holdsExaminedPart_none (by decide) s t rest

theorem decodeOne_malformed {b : List Byte} {r : FaultRecord} (h : decodeOne b = .malformed r) :
    HoldsExaminedPart b r := by
  rw [decodeOne_eq_outcome] at h
  cases hb : decodeFrame b with
  | incomplete => simp [hb] at h
  | malformed r' =>
    rw [hb] at h
    cases h
    exact decodeFrame_malformed hb
  | frame i =>
    obtain ⟨e, he⟩ := decodeFrame_frame_event hb
    simp [hb, outcome_frame he] at h

/-- Settles O11: by the field the record names. -/
theorem offendingBytesAreTheExaminedPart : Obligations.OffendingBytesAreTheExaminedPart := by
  intro b r h
  obtain ⟨hfield, hbytes, hlen⟩ := decodeOne_malformed h
  have hcount : r.bytes.length = examinedLength r.field := by rw [hbytes]; simpa using hlen
  refine ⟨fun hr => ?_, fun hr => ?_, fun tail => by rw [decodeOne_append (by simp [h]), h]⟩
  · have hnone := hfield.mpr hr
    rw [hnone] at hbytes hcount
    exact ⟨hnone, hbytes, hcount⟩
  · cases hf : r.field with
    | none => exact absurd hr (hfield.mp hf)
    | some f =>
      rw [hf] at hbytes hcount
      cases f with
      | event => exact .inl ⟨rfl, hbytes, hcount⟩
      | marker => exact .inr ⟨.inl rfl, hbytes, hcount⟩
      | low => exact .inr ⟨.inr (.inl rfl), hbytes, hcount⟩
      | high => exact .inr ⟨.inr (.inr rfl), hbytes, hcount⟩

/-! ### The three arms, by their inputs (R105 to R116) -/

/-- R67: the value of a slider frame in plain arithmetic. -/
theorem toNat_valueOf : ∀ h : Byte, h ≤ 0x7F#8 →
    (valueOf h 0x00#8).toNat = 2 * h.toNat ∧ (valueOf h 0x40#8).toNat = 2 * h.toNat + 1 := by
  decide

/-- Settles O4: the checks of the slider arm in their order. -/
theorem sliderFrameDecodes : Obligations.SliderFrameDecodes := by
  intro s t rest h0 h7 hclass
  have hs := statusOk_of_range h0 h7
  simp only [decodeOne_of_class_slider hs ((classOf_eq_iff t 0x0#8).mpr hclass)]
  refine ⟨fun ht => by simp [decodeSlider, sliderType, ht], ?_⟩
  rintro rfl
  refine ⟨fun hlen => ?_, ?_⟩
  · rw [(decodeSlider_eq_incomplete_iff s _ rest).mpr ⟨rfl, by omega⟩, outcome_incomplete]
  rintro high marker low tail rfl
  refine ⟨fun hm => ?_, ?_, ?_, ?_⟩
  · simp [decodeSlider, sliderType, markerByte, hm]
  · rintro rfl hl0 hl40
    simp [decodeSlider, sliderType, markerByte, hl0, hl40]
  · rintro rfl hl hh
    have hh : 0x7F#8 < high := hh
    obtain rfl | rfl := hl <;> simp [decodeSlider, sliderType, markerByte, hh]
  · rintro rfl hl hh
    have hh : ¬ 0x7F#8 < high := BitVec.not_lt.mpr hh
    have hv := toNat_valueOf high (BitVec.not_lt.mp hh)
    refine ⟨channelOf s, valueOf high low, channelOf_val s hs, ?_, ?_⟩
    · obtain rfl | rfl := hl
      · exact hv.1
      · exact hv.2
    · have hframe : decodeSlider s 0x07#8 (high :: 0x27#8 :: low :: tail)
          = .frame (.slider (channelOf s) (valueOf high low)) := by
        obtain rfl | rfl := hl <;> simp [decodeSlider, sliderType, markerByte, hh]
      rw [hframe, outcome_frame rfl]
      rfl

/-- R106: no channel-button frame kind has a type byte that is no channel key's. -/
theorem channelButtonOf_eq_none {t : Byte} (h : ∀ k, isChannelKey k = true → keyByte k ≠ t) :
    channelButtonOf t = none := by
  obtain ⟨hf, -⟩ | ⟨_, k, -, -, hk, ht, -⟩ := channelButtonOf_cases t
  · exact hf
  · exact absurd ht (h k hk)

/-- R112: likewise for the global keys. -/
theorem globalButtonOf_eq_none {t : Byte} (h : ∀ k, isChannelKey k = false → keyByte k ≠ t) :
    globalButtonOf t = none := by
  obtain ⟨hf, -⟩ | ⟨_, k, -, -, hk, ht, -⟩ := globalButtonOf_cases t
  · exact hf
  · exact absurd ht (h k hk)

theorem channelButtonOf_keyByte {k : KeyCode} (hk : isChannelKey k = true) :
    ∃ f, channelButtonOf (keyByte k) = some f ∧
      ∀ c p, (Decoded.frame (f c p)).outcome = .parsed (.channelButton c k p) 3 := by
  cases k <;> cases hk <;> exact ⟨_, rfl, fun c p => by cases p <;> rfl⟩

theorem globalButtonOf_keyByte {k : KeyCode} (hk : isChannelKey k = false) :
    ∃ f, globalButtonOf (keyByte k) = some f ∧
      ∀ p, (Decoded.frame (f p)).outcome = .parsed (.globalButton k p) 3 := by
  cases k <;> cases hk <;> exact ⟨_, rfl, fun p => by cases p <;> rfl⟩

/-- Settles O5: key, then length, then event. -/
theorem channelButtonFramesDecode : Obligations.ChannelButtonFramesDecode := by
  intro s t rest h0 h7 hclass
  have hs := statusOk_of_range h0 h7
  simp only [decodeOne_of_class_channelButton hs ((classOf_eq_iff t 0x4#8).mpr hclass)]
  refine ⟨fun hkey => by simp [decodeChannelButton, channelButtonOf_eq_none hkey], ?_⟩
  rintro k hk rfl
  obtain ⟨f, hf, hparsed⟩ := channelButtonOf_keyByte hk
  refine ⟨?_, ?_⟩
  · rintro rfl
    simp [decodeChannelButton, hf]
  rintro e tail rfl
  refine ⟨fun he0 he7F => ?_, ?_, ?_⟩
  · simp [decodeChannelButton, hf, (pressedOf_eq_none_iff e).mpr ⟨he0, he7F⟩]
  · rintro rfl
    exact ⟨channelOf s, channelOf_val s hs, by simp [decodeChannelButton, hf, pressedOf, hparsed]⟩
  · rintro rfl
    exact ⟨channelOf s, channelOf_val s hs, by simp [decodeChannelButton, hf, pressedOf, hparsed]⟩

/-- Settles O6: channel, then key, then length, then event. -/
theorem globalButtonFramesDecode : Obligations.GlobalButtonFramesDecode := by
  intro s t rest h0 h7 hclass
  have hs := statusOk_of_range h0 h7
  simp only [decodeOne_of_class_globalButton hs ((classOf_eq_iff t 0x7#8).mpr hclass)]
  refine ⟨fun hne => ?_, fun hb0 hkey => ?_, ?_⟩
  · simp [decodeGlobalButton, channelOf_eq_zero_iff hs, hne]
  · simp [decodeGlobalButton, (channelOf_eq_zero_iff hs).mpr hb0, globalButtonOf_eq_none hkey]
  rintro k hk rfl hb0
  have hzero := (channelOf_eq_zero_iff hs).mpr hb0
  obtain ⟨f, hf, hparsed⟩ := globalButtonOf_keyByte hk
  refine ⟨?_, ?_⟩
  · rintro rfl
    simp [decodeGlobalButton, hzero, hf]
  rintro e tail rfl
  refine ⟨fun he0 he7F => ?_, ?_, ?_⟩
  · simp [decodeGlobalButton, hzero, hf, (pressedOf_eq_none_iff e).mpr ⟨he0, he7F⟩]
  · rintro rfl
    simp [decodeGlobalButton, hzero, hf, pressedOf, hparsed]
  · rintro rfl
    simp [decodeGlobalButton, hzero, hf, pressedOf, hparsed]

end Sys2Proof

namespace Sys2Proof.Machine

/-! ### What an inbound frame does (R105 to R116, R170) -/

/-- An inbound frame's meaning in each mode: accepted on an ACTIVE block, nothing on a FAULTED one. -/
theorem exec_inbound {i : Instr} {e : ControlEvent} (he : i.event? = some e) (s : State) :
    (s.fault = none → exec i s
      = .next { s with buf := s.buf.drop i.length, events := s.events ++ [e] }) ∧
    (∀ r, s.fault = some r → exec i s = .next s) := by
  rw [exec_of_event he]
  exact ⟨fun ha => by rw [acceptFrame_active ha], fun r hr => by rw [acceptFrame_faulted hr]⟩

/-- Settles O20. -/
theorem sliderFrameRuns : Obligations.SliderFrameRuns := fun _ _ s => exec_inbound rfl s

/-- Settles O21. -/
theorem channelButtonFramesRun : Obligations.ChannelButtonFramesRun := by
  intro c s accepts
  refine ⟨?_, ?_, ?_, ?_, ?_, ?_, ?_, ?_, ?_, ?_⟩ <;> exact exec_inbound rfl s

/-- Settles O22. -/
theorem globalButtonFramesRun : Obligations.GlobalButtonFramesRun := by
  intro s accepts
  refine ⟨?_, ?_, ?_, ?_, ?_, ?_, ?_, ?_⟩ <;> exact exec_inbound rfl s

/-! ### The first byte (R102, R235) -/

/-- Settles O45: one byte is too few for the decode loop, whatever it is. -/
theorem firstByteIsNeverJudged : Obligations.FirstByteIsNeverJudged := by
  intro s x rest ha hb hops hk
  rw [step_feed_active hops ha (List.cons_ne_nil _ _) hk, hb]
  exact drain_incomplete rfl

end Sys2Proof.Machine
end

section
/-! PROOFS. The frame encoder (41_frame_encoder.md): what it answers on valid operands and on the others, its frames
read by the inbound decoder, and the operations that call it. -/

namespace Sys2Proof.Machine

/-! ### Valid operands are a channel and a byte (R141, R142) -/

theorem exists_channel_eq {c : Int} (h0 : 0 ≤ c) (h7 : c ≤ 7) : ∃ ch : Channel, (ch.val : Int) = c :=
  ⟨⟨c.toNat, by omega⟩, Int.toNat_of_nonneg h0⟩

theorem exists_byte_eq {v : Int} (h0 : 0 ≤ v) (h255 : v ≤ 255) : ∃ b : Byte, (b.toNat : Int) = v :=
  ⟨BitVec.ofInt 8 v, toNat_ofInt_value ((valueInRange_iff v).mpr ⟨h0, h255⟩)⟩

theorem channelInRange_channel (ch : Channel) : channelInRange ch.val = true :=
  (channelInRange_iff _).mpr (by omega)

theorem valueInRange_byte (b : Byte) : valueInRange b.toNat = true :=
  (valueInRange_iff _).mpr (by omega)

theorem statusOfInt_channel : ∀ ch : Channel, statusOfInt ch.val = statusOf ch := by decide

/-! ### What the encoder answers (R70, R71, R152, R209) -/

theorem encodeSlider_valid (ch : Channel) (b : Byte) :
    encodeSlider ch.val b.toNat = .ok (sliderBytes (statusOf ch) b) := by
  rw [encodeSlider_ok (channelInRange_channel ch) (valueInRange_byte b)]
  simp [encode, statusOfInt_channel]

theorem encodeSlider_of_channel_out {c : Int} (h : ¬ (0 ≤ c ∧ c ≤ 7)) (v : Int) :
    encodeSlider c v = .rejected .channelOutOfRange := by
  simp [encodeSlider, (channelInRange_iff c).not.mpr h]

theorem encodeSlider_of_value_out (ch : Channel) {v : Int} (h : ¬ (0 ≤ v ∧ v ≤ 255)) :
    encodeSlider ch.val v = .rejected .valueOutOfRange := by
  simp [encodeSlider, channelInRange_channel, (valueInRange_iff v).not.mpr h]

/-- The encoder answers a set-slider frame on valid operands only. -/
theorem encodeSlider_eq_ok_iff {c v : Int} {f : List Byte} :
    encodeSlider c v = .ok f ↔ ∃ (ch : Channel) (b : Byte),
      (ch.val : Int) = c ∧ (b.toNat : Int) = v ∧ f = sliderBytes (statusOf ch) b := by
  constructor
  · intro h
    by_cases hc : 0 ≤ c ∧ c ≤ 7
    · obtain ⟨ch, rfl⟩ := exists_channel_eq hc.1 hc.2
      by_cases hv : 0 ≤ v ∧ v ≤ 255
      · obtain ⟨b, rfl⟩ := exists_byte_eq hv.1 hv.2
        rw [encodeSlider_valid] at h
        cases h
        exact ⟨ch, b, rfl, rfl, rfl⟩
      · rw [encodeSlider_of_value_out ch hv] at h
        cases h
    · rw [encodeSlider_of_channel_out hc] at h
      cases h
  · rintro ⟨ch, b, rfl, rfl, rfl⟩
    exact encodeSlider_valid ch b

/-- R154: every key on every channel. -/
theorem encodeLed_valid (ch : Channel) (k : KeyCode) (on : Bool) :
    encodeLed ch.val k on = .ok (buttonBytes (statusOf ch) k on) := by
  rw [encodeLed_ok (channelInRange_channel ch), encode_ledInstr, statusOfInt_channel]

theorem encodeLed_of_channel_out {c : Int} (h : ¬ (0 ≤ c ∧ c ≤ 7)) (k : KeyCode) (on : Bool) :
    encodeLed c k on = .rejected .channelOutOfRange := by
  simp [encodeLed, (channelInRange_iff c).not.mpr h]

/-! ### The encoder's frames in plain arithmetic (R61, R67) -/

theorem toNat_statusOf (ch : Channel) : ((statusOf ch).toNat : Int) = 0xB0 + ch.val := by
  have hval := val_eq_statusOf_sub ch
  have hmin := (statusOf_range ch).1
  omega

theorem toNat_highOf (v : Byte) : (highOf v).toNat = v.toNat / 2 := by
  simp [highOf, Nat.shiftRight_eq_div_pow]

theorem toNat_lowOf : ∀ v : Byte, (lowOf v).toNat = 64 * (v.toNat % 2) := by decide

/-- Settles O18: a set-slider frame has the layout of R64, and an LED frame that of R71. -/
theorem encoderOutputIsLegal : Obligations.EncoderOutputIsLegal := by
  refine ⟨fun c v f h => ?_, fun c k on f h => ?_⟩
  · obtain ⟨ch, b, -, -, rfl⟩ := encodeSlider_eq_ok_iff.mp h
    obtain ⟨hmin, hmax⟩ := statusOf_range ch
    exact ⟨statusOf ch, highOf b, lowOf b, rfl, hmin, hmax, highOf_le b, lowOf_cases b⟩
  · by_cases hc : 0 ≤ c ∧ c ≤ 7
    · obtain ⟨ch, rfl⟩ := exists_channel_eq hc.1 hc.2
      rw [encodeLed_valid] at h
      cases h
      exact length_buttonBytes _ k on
    · rw [encodeLed_of_channel_out hc] at h
      cases h

/-! ### The encoder's frames read by the inbound decoder (R155) -/

theorem decodeOne_sliderBytes (ch : Channel) (b : Byte) :
    decodeOne (sliderBytes (statusOf ch) b) = .parsed (.sliderMove ch b) 5 :=
  decodeOne_eq_parsed_iff.mpr ⟨.slider ch b, [], rfl, rfl, (List.append_nil _).symm⟩

theorem decodeOne_buttonBytes_channelKey {k : KeyCode} (hk : isChannelKey k = true) (ch : Channel)
    (on : Bool) :
    decodeOne (buttonBytes (statusOf ch) k on) = .parsed (.channelButton ch k on) 3 := by
  have hc : classOf (keyByte k) = 0x4#8 := by simp [classOf_keyByte, hk]
  obtain ⟨f, hf, hparsed⟩ := channelButtonOf_keyByte hk
  rw [buttonBytes, decodeOne_of_class_channelButton (statusOk_statusOf ch) hc]
  simp [decodeChannelButton, hf, pressedOf_eventByte, channelOf_statusOf, hparsed]

theorem decodeOne_buttonBytes_globalKey {k : KeyCode} (hk : isChannelKey k = false) (ch : Channel)
    (on : Bool) :
    decodeOne (buttonBytes (statusOf ch) k on) = if ch = 0 then .parsed (.globalButton k on) 3
      else .malformed ⟨.invalidChannel, none, [statusOf ch, keyByte k]⟩ := by
  have hc : classOf (keyByte k) = 0x7#8 := by simp [classOf_keyByte, hk]
  obtain ⟨f, hf, hparsed⟩ := globalButtonOf_keyByte hk
  rw [buttonBytes, decodeOne_of_class_globalButton (statusOk_statusOf ch) hc]
  by_cases hz : ch = 0
  · simp [decodeGlobalButton, hf, pressedOf_eventByte, channelOf_statusOf, hparsed, hz]
  · simp [decodeGlobalButton, channelOf_statusOf, hz]

/-- Settles O17: valid operands are a channel and a byte, and the decoder reads each layout back, a global key on
channel 0 only. -/
theorem encoderOutputDecodesBack : Obligations.EncoderOutputDecodesBack := by
  refine ⟨fun c v hc0 hc7 hv0 hv255 => ?_, fun c k on hc0 hc7 hk => ?_, fun k on hk => ?_,
    fun c k on hc1 hc7 hk => ?_⟩
  · obtain ⟨ch, rfl⟩ := exists_channel_eq hc0 hc7
    obtain ⟨b, rfl⟩ := exists_byte_eq hv0 hv255
    exact ⟨_, ch, b, encodeSlider_valid ch b, rfl, rfl, decodeOne_sliderBytes ch b⟩
  · obtain ⟨ch, rfl⟩ := exists_channel_eq hc0 hc7
    exact ⟨_, ch, encodeLed_valid ch k on, rfl, decodeOne_buttonBytes_channelKey hk ch on⟩
  · exact ⟨_, encodeLed_valid 0 k on, decodeOne_buttonBytes_globalKey hk 0 on⟩
  · obtain ⟨ch, rfl⟩ := exists_channel_eq (by omega) hc7
    have hz : ch ≠ 0 := by rintro rfl; simp at hc1
    exact ⟨_, statusOf ch, encodeLed_valid ch k on, toNat_statusOf ch,
      by rw [decodeOne_buttonBytes_globalKey hk, if_neg hz]⟩

/-! ### What an outbound frame kind does (R141 to R151) -/

/-- Settles O23: the channel out of range, the value out of range, both valid. -/
theorem setSliderReplies : Obligations.SetSliderReplies := by
  intro c v s
  rw [exec_setslider]
  refine ⟨fun hc => ?_, fun hc0 hc7 hv => ?_, fun hc0 hc7 hv0 hv255 => ?_⟩
  · rw [encodeSlider_of_channel_out hc, reply]
  · obtain ⟨ch, rfl⟩ := exists_channel_eq hc0 hc7
    rw [encodeSlider_of_value_out ch hv, reply]
  · obtain ⟨ch, rfl⟩ := exists_channel_eq hc0 hc7
    obtain ⟨b, rfl⟩ := exists_byte_eq hv0 hv255
    refine ⟨statusOf ch, highOf b, lowOf b, toNat_statusOf ch, ?_, ?_, ?_⟩
    · simp [toNat_highOf]
    · simp [toNat_lowOf]
    · rw [encodeSlider_valid]
      rfl

/-- R142 to R151: an LED frame kind adds one reply, the rejection of the channel or the key's three bytes. -/
theorem exec_ledInstr_replies (k : KeyCode) (on : Bool) (c : Int) (s : State) :
    (¬ (0 ≤ c ∧ c ≤ 7) → exec (ledInstr k on c) s
      = .next { s with replies := s.replies ++ [.rejected .channelOutOfRange] }) ∧
    (0 ≤ c → c ≤ 7 → ∃ st : Byte, (st.toNat : Int) = 0xB0 + c ∧ exec (ledInstr k on c) s
      = .next { s with replies := s.replies ++ [.ok [st, keyByte k, eventByte on]] }) := by
  rw [exec_ledInstr]
  refine ⟨fun hc => ?_, fun hc0 hc7 => ?_⟩
  · rw [encodeLed_of_channel_out hc, reply]
  · obtain ⟨ch, rfl⟩ := exists_channel_eq hc0 hc7
    exact ⟨statusOf ch, toNat_statusOf ch, by rw [encodeLed_valid, reply, buttonBytes]⟩

/-- Settles O24: each of the eighteen kinds is the LED frame of its key and switch. -/
theorem setLedReplies : Obligations.SetLedReplies := by
  intro c s replies
  have led (k : KeyCode) (on : Bool) := exec_ledInstr_replies k on c s
  exact ⟨led .mute true, led .mute false, led .solo true, led .solo false, led .gang true,
    led .gang false, led .pan true, led .pan false, led .slider true, led .slider false,
    led .clear true, led .clear false, led .write true, led .write false, led .show true,
    led .show false, led .master true, led .master false⟩

/-! ### ENCODE_LED in both forms of its key operand (R153, R154) -/

/-- Settles O39: the step is the key's LED frame kind, whose channel is valid. -/
theorem everyKeyOnEveryChannelEncodes : Obligations.EveryKeyOnEveryChannelEncodes := by
  intro s c k on rest hops hc0 hc7
  have hstep : step s = exec (ledInstr k on c) { s with ops := rest } := step_op hops
  rw [hstep]
  exact (exec_ledInstr_replies k on c { s with ops := rest }).2 hc0 hc7

theorem keyOf_eq_none_iff (b : Byte) : keyOf b = none ↔ ∀ k, keyByte k ≠ b := by
  constructor
  · rintro h k rfl
    simp [keyOf_keyByte] at h
  · intro h
    by_contra hb
    obtain ⟨k, hk⟩ := Option.ne_none_iff_exists'.mp hb
    exact h k (keyByte_of_keyOf hk)

/-- R153: a key's own byte stands for the key, whether the channel is valid or not. -/
theorem runEncodeLed_raw_keyByte {s : State} (hraw : s.params.keyInput = .rawByte) (c : Int)
    (k : KeyCode) (on : Bool) :
    runEncodeLed c (.raw (keyByte k)) on s = exec (ledInstr k on c) s := by
  cases hc : channelInRange c <;>
    simp [runEncodeLed, hraw, rawKeyRejection, keyOf_keyByte, exec_ledInstr, encodeLed, hc]

/-- R153, R209: a byte that is no key is rejected, the channel being checked first. -/
theorem runEncodeLed_raw_unknown {s : State} (hraw : s.params.keyInput = .rawByte) {b : Byte}
    (hb : keyOf b = none) (c : Int) (on : Bool) :
    runEncodeLed c (.raw b) on s = .next (reply
      (.rejected (if channelInRange c then .unknownKey else .channelOutOfRange)) s) := by
  cases hc : channelInRange c <;> simp [runEncodeLed, hraw, rawKeyRejection, hb, hc]

/-- Settles O40: a byte is a key's own, and the step is that key's LED frame kind, or no key's. -/
theorem rawKeyByteIsChecked : Obligations.RawKeyByteIsChecked := by
  intro s c b on rest hops hraw
  replace hraw : ({ s with ops := rest } : State).params.keyInput = .rawByte := hraw
  have hkey (k : KeyCode) (hb : keyByte k = b) :
      step s = exec (ledInstr k on c) { s with ops := rest } := by
    rw [step_op hops, ← hb]
    exact runEncodeLed_raw_keyByte hraw c k on
  have hunknown (hb : keyOf b = none) := (step_op hops).trans (runEncodeLed_raw_unknown hraw hb c on)
  refine ⟨fun hc => ?_, fun hc0 hc7 hb => ?_, fun k hc0 hc7 hb => ?_⟩
  · cases hb : keyOf b with
    | none => rw [hunknown hb, if_neg ((channelInRange_iff c).not.mpr hc), reply]
    | some k =>
      rw [hkey k (keyByte_of_keyOf hb)]
      exact (exec_ledInstr_replies k on c _).1 hc
  · rw [hunknown ((keyOf_eq_none_iff b).mpr hb), if_pos ((channelInRange_iff c).mpr ⟨hc0, hc7⟩), reply]
  · rw [hkey k hb, ← hb]
    exact (exec_ledInstr_replies k on c _).2 hc0 hc7

end Sys2Proof.Machine
end

section
/-! PROOFS. The stream accumulator (42_stream_accumulator.md): what each operation answers or refuses, the decode loop on
whole frames, FEED against the pseudocode of R170, and the laws of FEED over chunk boundaries. -/

namespace Sys2Proof.Machine

/-! ### CLEAR (R175) -/

theorem step_clear {s : State} {rest : List HostOp} (h : s.ops = .clear :: rest) :
    step s = .next { s with ops := rest, buf := [], fault := none } :=
  step_op h

/-- Settles O32: the second CLEAR finds the buffer and the fault as the first left them. -/
theorem clearStartsASession : Obligations.ClearStartsASession := by
  refine fun s rest => ⟨step_clear, fun t hops ht => ?_⟩
  rw [step_clear hops] at ht
  cases ht
  exact (step_clear rfl).trans (step_clear rfl).symm

/-! ### What FEED answers and refuses (R171, R174, R179, R180) -/

theorem runFeed_nil (s : State) : runFeed [] s = .next s := by
  cases h : s.fault <;> simp [runFeed, h]

theorem runFeed_faulted {c : List Byte} {s : State} (hf : s.fault ≠ none)
    (hc : c.length ≤ s.params.maxChunk) : runFeed c s = .next s := by
  obtain ⟨r, hr⟩ := Option.ne_none_iff_exists'.mp hf
  simp [runFeed, hr, hc]

theorem runFeed_tooLong {c : List Byte} {s : State} (hc : s.params.maxChunk < c.length) :
    runFeed c s = .refused .chunkTooLong := by
  simp [runFeed, hc]

theorem runFeed_overCapacity {c : List Byte} {s : State} (hc : c.length ≤ s.params.maxChunk)
    (ha : s.fault = none) (hne : c ≠ []) (hfit : fits s.params (s.buf.length + c.length) = false) :
    runFeed c s = .refused .bufferOverCapacity := by
  simp [runFeed, ha, hc, hne, hfit]

/-- The decode loop of an ACTIVE block ends (R178). -/
theorem drain_answers {s : State} (ha : s.fault = none) : ∃ t, drain s = .next t := by
  obtain ⟨is, b, f, -, -, hd, -⟩ := drain_spec ha
  exact ⟨_, hd⟩

/-- What a FEED answers, by the conditions it tests and in their order: two refusals, and a next state. -/
theorem runFeed_cases (c : List Byte) (s : State) :
    (s.params.maxChunk < c.length ∧ runFeed c s = .refused .chunkTooLong) ∨
    (c.length ≤ s.params.maxChunk ∧ s.fault = none ∧ c ≠ [] ∧
      fits s.params (s.buf.length + c.length) = false ∧
      runFeed c s = .refused .bufferOverCapacity) ∨
    (c.length ≤ s.params.maxChunk ∧
      (s.fault = none → c ≠ [] → fits s.params (s.buf.length + c.length) = true) ∧
      ∃ t, runFeed c s = .next t) := by
  by_cases hc : s.params.maxChunk < c.length
  · exact .inl ⟨hc, runFeed_tooLong hc⟩
  replace hc := not_lt.mp hc
  by_cases ha : s.fault = none
  · by_cases hne : c = []
    · subst hne
      exact .inr (.inr ⟨hc, fun _ h => absurd rfl h, s, runFeed_nil s⟩)
    · cases hfit : fits s.params (s.buf.length + c.length) with
      | false => exact .inr (.inl ⟨hc, ha, hne, rfl, runFeed_overCapacity hc ha hne hfit⟩)
      | true =>
        rw [runFeed_active ha hne ⟨hc, hfit⟩]
        exact .inr (.inr ⟨hc, fun _ _ => rfl, drain_answers (s := appendChunk c s) ha⟩)
  · exact .inr (.inr ⟨hc, fun h => absurd h ha, s, runFeed_faulted ha hc⟩)

/-- A FEED the block takes is performed, in either mode. -/
theorem runFeed_answers {c : List Byte} {s : State} (hk : TakesChunk s c) :
    ∃ t, runFeed c s = .next t := by
  obtain ⟨hlen, hfit⟩ := hk
  obtain ⟨h, -⟩ | ⟨-, -, -, h, -⟩ | ⟨-, -, h⟩ := runFeed_cases c s
  · omega
  · simp [hfit] at h
  · exact h

theorem runFeed_eq_refused_iff {c : List Byte} {s : State} {r : Refusal} :
    runFeed c s = .refused r ↔
      (r = .chunkTooLong ∧ s.params.maxChunk < c.length) ∨
      (r = .bufferOverCapacity ∧ c.length ≤ s.params.maxChunk ∧ s.fault = none ∧ c ≠ [] ∧
        fits s.params (s.buf.length + c.length) = false) := by
  obtain ⟨hc, h⟩ | ⟨hc, ha, hne, hfit, h⟩ | ⟨hc, hfit, t, h⟩ := runFeed_cases c s
  · simp [h, hc, not_le.mpr hc, eq_comm (a := r)]
  · simp [h, hc, not_lt.mpr hc, ha, hne, hfit, eq_comm (a := r)]
  · simp only [h, reduceCtorEq, not_lt.mpr hc, and_false, false_or, false_iff]
    rintro ⟨-, -, ha, hne, hover⟩
    simp [hfit ha hne] at hover

/-- R180: over capacity, where there is one. -/
theorem fits_eq_false_iff (p : Params) (n : Nat) :
    fits p n = false ↔ ∃ cap, p.bufCap = some cap ∧ cap < n := by
  cases h : p.bufCap <;> simp [fits, h]

/-- Settles O31. -/
theorem faultedFeedDiscardsTheChunk : Obligations.FaultedFeedDiscardsTheChunk := by
  intro s chunk rest r hops hr hlen
  rw [step_feed hops]
  exact runFeed_faulted (s := { s with ops := rest }) (by simp [hr]) hlen

/-! ### What a step answers and refuses (R153, R178 to R180) -/

/-- What an ENCODE_LED answers: a raw key byte is refused where the block takes key codes, and all else is a reply. -/
theorem runEncodeLed_cases (c : Int) (k : KeyOperand) (on : Bool) (s : State) :
    ((∃ b, k = .raw b) ∧ s.params.keyInput = .keyCode ∧
      runEncodeLed c k on s = .refused .rawKeyNotTaken) ∨
    (¬ ((∃ b, k = .raw b) ∧ s.params.keyInput = .keyCode) ∧
      ∃ o, runEncodeLed c k on s = .next (reply o s)) := by
  cases k with
  | code k => exact .inr ⟨by simp, _, runEncodeLed_code c k on s⟩
  | raw b =>
    cases hkey : s.params.keyInput with
    | keyCode => exact .inl ⟨⟨b, rfl⟩, rfl, by simp [runEncodeLed, hkey]⟩
    | rawByte =>
      refine .inr ⟨by simp, ?_⟩
      cases hb : keyOf b with
      | none => exact ⟨_, runEncodeLed_raw_unknown hkey hb c on⟩
      | some k =>
        obtain rfl := keyByte_of_keyOf hb
        exact ⟨_, (runEncodeLed_raw_keyByte hkey c k on).trans (exec_ledInstr k on c s)⟩

theorem runEncodeLed_eq_refused_iff {c : Int} {k : KeyOperand} {on : Bool} {s : State} {r : Refusal} :
    runEncodeLed c k on s = .refused r ↔
      r = .rawKeyNotTaken ∧ (∃ b, k = .raw b) ∧ s.params.keyInput = .keyCode := by
  obtain ⟨hraw, hkey, h⟩ | ⟨hn, o, h⟩ := runEncodeLed_cases c k on s
  · simp [h, hraw, hkey, eq_comm (a := r)]
  · simp [h, hn]

/-- Only a FEED or an ENCODE_LED is ever refused. -/
theorem step_eq_refused_iff {s : State} {r : Refusal} :
    step s = .refused r ↔
      (∃ c rest, s.ops = .feed c :: rest ∧ runFeed c { s with ops := rest } = .refused r) ∨
      (∃ c k on rest, s.ops = .encodeLed c k on :: rest ∧
        runEncodeLed c k on { s with ops := rest } = .refused r) := by
  cases hops : s.ops with
  | nil => simp [step, runNext, hops]
  | cons op rest =>
    rw [step_op hops]
    cases op with
    | feed c => simp [runOp]
    | clear => simp [runOp, runClear]
    | encodeSlider c v => simp [runOp, runEncodeSlider_eq]
    | encodeLed c k on => simp [runOp, and_assoc, -Bool.exists_bool]

/-- Settles O50: the refusals of FEED and of ENCODE_LED, and no other step is refused. -/
theorem refusedStepsExactly : Obligations.RefusedStepsExactly := by
  intro s
  simp only [ne_eq, step_eq_refused_iff, runFeed_eq_refused_iff, runEncodeLed_eq_refused_iff]
  refine ⟨by simp, by simp [fits_eq_false_iff], ⟨?_, ?_⟩, by simp⟩
  · rintro (⟨_, _, -, ⟨⟨⟩, -⟩ | ⟨⟨⟩, -⟩⟩ | ⟨c, _, on, rest, hops, -, ⟨b, rfl⟩, hkey⟩)
    exact ⟨c, b, on, rest, hops, hkey⟩
  · rintro ⟨c, b, on, rest, hops, hkey⟩
    exact .inr ⟨c, .raw b, on, rest, hops, trivial, ⟨b, rfl⟩, hkey⟩

/-- An operation ends in no fault of the model. -/
theorem runOp_ne_fault (op : HostOp) (s : State) (f : Fault) : runOp op s ≠ .fault f := by
  cases op with
  | feed c =>
    obtain ⟨-, h⟩ | ⟨-, -, -, -, h⟩ | ⟨-, -, t, h⟩ := runFeed_cases c s <;> simp [runOp, h]
  | clear => simp [runOp, runClear]
  | encodeSlider c v => simp [runOp, runEncodeSlider_eq]
  | encodeLed c k on =>
    obtain ⟨-, -, h⟩ | ⟨-, o, h⟩ := runEncodeLed_cases c k on s <;> simp [runOp, h]

theorem step_ne_fault (s : State) (f : Fault) : step s ≠ .fault f := by
  cases hops : s.ops with
  | nil => simp [step, runNext, hops]
  | cons op rest =>
    rw [step_op hops]
    exact runOp_ne_fault op _ f

/-! ### The bytes and events of whole frames (R119, R178) -/

/-- R178: each frame takes at least three bytes. -/
theorem three_mul_length_le (is : List Instr) : 3 * is.length ≤ (is.flatMap encode).length := by
  induction is with
  | nil => simp
  | cons i is ih =>
    have h := three_le_length i
    simp only [List.flatMap_cons, List.length_append, List.length_cons, length_encode]
    omega

/-- Every inbound frame reports an event. -/
theorem map_event?_eq {is : List Instr} (hi : ∀ i ∈ is, i.direction = .inbound) :
    is.map Instr.event? = (is.filterMap Instr.event?).map some := by
  rw [List.map_filterMap_some_eq_filter_map_isSome, List.filter_eq_self.mpr]
  intro e he
  obtain ⟨i, hmem, rfl⟩ := List.mem_map.mp he
  exact (event?_isSome_iff i).mpr (hi i hmem)

/-- What the decode loop of an ACTIVE block leaves of the buffer and adds to the events. -/
theorem drain_bounds {s t : State} (h : drain s = .next t) (ha : s.fault = none) :
    t.buf.length ≤ s.buf.length ∧ s.events <+: t.events ∧ t.replies = s.replies ∧
      t.events.length ≤ s.events.length + s.buf.length / 3 := by
  obtain ⟨is, b, f, -, hb, hd, -⟩ := drain_spec ha
  have hbytes := three_mul_length_le is
  have hevents : (is.filterMap Instr.event?).length ≤ is.length := List.length_filterMap_le _ _
  rw [hd] at h
  cases h
  refine ⟨?_, List.prefix_append _ _, rfl, ?_⟩
  · simp [hb]
  · simp only [hb, List.length_append]
    omega

theorem runFeed_bounds {c : List Byte} {s t : State} (h : runFeed c s = .next t) :
    t.buf.length ≤ s.buf.length + c.length ∧ s.events <+: t.events ∧ t.replies = s.replies ∧
      t.events.length ≤ s.events.length + (s.buf.length + c.length) / 3 := by
  obtain ⟨-, ⟨-, rfl⟩ | ⟨-, -, rfl⟩ | ⟨ha, -, -, hd⟩⟩ := runFeed_next h
  · simp
  · simp
  · simpa using drain_bounds hd ha

/-- Settles O49: no operation faults, and a FEED's events come from frames of at least three bytes. -/
theorem decodeLoopEnds : Obligations.DecodeLoopEnds := by
  refine ⟨step_ne_fault, fun s t chunk rest hops h => ?_⟩
  rw [step_feed hops] at h
  obtain ⟨-, -, -, hevents⟩ := runFeed_bounds h
  exact hevents

/-- Settles O36, by the inversion of a step: FEED appends events, an encoder operation a reply. -/
theorem deliveredIsNeverWithdrawn : Obligations.DeliveredIsNeverWithdrawn := by
  intro s t h
  obtain ⟨-, rfl⟩ | ⟨c, rest, -, hf⟩ | ⟨rest, -, rfl⟩ | ⟨op, rest, o, -, -, -, rfl⟩ := step_next h
  · exact ⟨List.prefix_rfl, List.prefix_rfl⟩
  · obtain ⟨-, hevents, hreplies, -⟩ := runFeed_bounds hf
    exact ⟨hevents, hreplies ▸ List.prefix_rfl⟩
  · exact ⟨List.prefix_rfl, List.prefix_rfl⟩
  · exact ⟨List.prefix_rfl, List.prefix_append _ _⟩

/-! ### Running the loop on a block that waits (R22, R171, R180) -/

theorem decodeOne_of_inv_active {s : State} (hi : s.Inv) (ha : s.fault = none) :
    decodeOne s.buf = .incomplete := by
  simpa [State.Inv, ha] using hi

theorem drain_of_inv {s : State} (hi : s.Inv) (ha : s.fault = none) : drain s = .next s :=
  drain_incomplete ((decodeOne_eq_incomplete_iff s.buf).mp (decodeOne_of_inv_active hi ha))

/-- On an ACTIVE block that waits, every chunk it takes may go through the decode loop, the empty one too. -/
theorem runFeed_of_inv {c : List Byte} {s : State} (hi : s.Inv) (ha : s.fault = none)
    (hk : TakesChunk s c) : runFeed c s = drain (appendChunk c s) := by
  by_cases hc : c = []
  · simp [hc, runFeed_nil, appendChunk, drain_of_inv hi ha]
  · exact runFeed_active ha hc hk

/-- Settles O30. -/
theorem emptyChunkChangesNothing : Obligations.EmptyChunkChangesNothing :=
  ⟨fun _ _ hops => (step_feed hops).trans (runFeed_nil _), fun _ => drain_of_inv⟩

/-- R22: between operations an ACTIVE block holds at most four bytes. -/
theorem length_buf_le_four {s : State} (hi : s.Inv) (ha : s.fault = none) : s.buf.length ≤ 4 :=
  (incompleteBuffersExactly s.buf).2 (decodeOne_of_inv_active hi ha)

/-- R6: a BUF_CAP that R6 asks for has room for a waiting buffer and a chunk. -/
theorem fits_of_wf {p : Params} (hp : p.wf = true) {n : Nat} (hn : n ≤ 4 + p.maxChunk) :
    fits p n = true := by
  cases hcap : p.bufCap with
  | none => simp [fits, hcap]
  | some cap =>
    simp only [Params.wf, hcap, Bool.and_eq_true, decide_eq_true_eq] at hp
    simp only [fits, hcap, decide_eq_true_eq]
    omega

/-- Settles O51: a FAULTED block discards the chunk, and an ACTIVE one has room for it. -/
theorem bufferNeverOverflows : Obligations.BufferNeverOverflows := by
  intro s chunk rest hp hi hops hlen
  have hroom (ha : s.fault = none) : s.buf.length + chunk.length ≤ 4 + s.params.maxChunk :=
    add_le_add (length_buf_le_four hi ha) hlen
  refine ⟨?_, fun ha => by simpa using hroom ha⟩
  rw [step_feed hops]
  by_cases ha : s.fault = none
  · exact runFeed_answers (s := { s with ops := rest }) ⟨hlen, fits_of_wf hp (hroom ha)⟩
  · exact ⟨_, runFeed_faulted (s := { s with ops := rest }) ha hlen⟩

/-! ### The loops on whole frames (R170, R177) -/

/-- The decode loop takes the whole frames at the front, in order, and goes on with what stands behind them. -/
theorem drain_frames {is : List Instr} (hi : ∀ i ∈ is, i.direction = .inbound) {s : State}
    {b : List Byte} (ha : s.fault = none) (hb : s.buf = is.flatMap encode ++ b) :
    drain s = drain { s with buf := b, events := s.events ++ is.filterMap Instr.event? } := by
  induction is generalizing s with
  | nil =>
    obtain rfl : s.buf = b := hb
    simp
  | cons i is ih =>
    obtain ⟨hdir, hi⟩ := List.forall_mem_cons.mp hi
    rw [List.flatMap_cons, List.append_assoc] at hb
    obtain ⟨e, he, hd⟩ := drain_frame ha (hb ▸ decodeFrame_encode_append hdir _)
    have hrest : s.buf.drop i.length = is.flatMap encode ++ b := by
      rw [hb, ← length_encode, List.drop_left]
    rw [hd, ih hi (s := { s with buf := s.buf.drop i.length, events := s.events ++ [e] }) ha hrest]
    simp [he]

/-- Settles O41: the loop takes every frame and finds nothing behind them. -/
theorem concatenatedFramesAllDecode : Obligations.ConcatenatedFramesAllDecode := by
  intro s is rest hi ha hb hops hk
  have hmap := map_event?_eq hi
  refine ⟨is.filterMap Instr.event?, by simpa using (congrArg List.length hmap).symm, hmap, ?_⟩
  have hrun := runFeed_of_inv (s := { s with ops := rest }) (inv_of_empty hb ha) ha hk
  rw [step_feed hops, hrun, drain_frames (b := []) hi (by exact ha) (by simp [hb]),
    drain_incomplete decodeFrame_nil]
  simp [appendChunk, hb]

/-- R170's loop takes whole frames likewise, one round for each. -/
theorem specLoop_frames {is : List Instr} (hi : ∀ i ∈ is, i.direction = .inbound) (n : Nat)
    (b : List Byte) (evs : List ControlEvent) :
    specLoop (n + is.length) (is.flatMap encode ++ b) evs
      = specLoop n b (evs ++ is.filterMap Instr.event?) := by
  induction is generalizing evs with
  | nil => simp
  | cons i is ih =>
    obtain ⟨hdir, hi⟩ := List.forall_mem_cons.mp hi
    obtain ⟨e, he⟩ := Option.isSome_iff_exists.mp ((event?_isSome_iff i).mpr hdir)
    have hparsed : decodeOne (encode i ++ (is.flatMap encode ++ b)) = .parsed e i.length :=
      decodeOne_eq_parsed_iff.mpr ⟨i, _, he, rfl, rfl⟩
    rw [List.length_cons, ← Nat.add_assoc, List.flatMap_cons, List.append_assoc]
    simp only [specLoop, hparsed]
    rw [← length_encode, List.drop_left, ih hi]
    simp [he]

/-- R170's loop ends where the buffer invariant holds, with the fault of the state. -/
theorem specLoop_of_inv {s : State} (hi : s.Inv) (n : Nat) (evs : List ControlEvent) :
    specLoop (n + 1) s.buf evs = some (evs, s.buf, s.fault) := by
  unfold State.Inv at hi
  cases hf : s.fault <;> simp [specLoop, hi, hf]

/-- R170's loop, given a round more than there are bytes, ends with what the machine's loop leaves. -/
theorem drain_eq_specLoop {s : State} (ha : s.fault = none) :
    ∃ evs b f, specLoop (s.buf.length + 1) s.buf [] = some (evs, b, f) ∧
      drain s = .next { s with buf := b, fault := f, events := s.events ++ evs } := by
  obtain ⟨is, b, f, hi, hb, hd, -⟩ := drain_spec ha
  have hstop := specLoop_of_inv (drain_inv hd ha)
  have hbytes := three_mul_length_le is
  have hlen : s.buf.length = (is.flatMap encode).length + b.length := by simp [hb]
  obtain ⟨n, hn⟩ : ∃ n, s.buf.length + 1 = n + 1 + is.length :=
    ⟨s.buf.length - is.length, by omega⟩
  refine ⟨is.filterMap Instr.event?, b, f, ?_, hd⟩
  rw [hn, hb, specLoop_frames hi]
  exact hstop n _

/-- Settles O28: the two early returns of R170, and its loop. -/
theorem feedFollowsThePseudocode : Obligations.FeedFollowsThePseudocode := by
  intro s chunk rest hops hk
  refine ⟨fun hf => ?_, fun _ hc => ?_, fun ha hc => ?_⟩
  · rw [step_feed hops]
    exact runFeed_faulted (s := { s with ops := rest }) hf hk.1
  · rw [step_feed hops, hc, runFeed_nil]
  · rw [step_feed_active hops ha hc hk]
    exact drain_eq_specLoop (s := { s with ops := rest, buf := s.buf ++ chunk }) ha

/-! ### Chunk boundaries (R176) -/

/-- The end of a run over two chunks, `t`, against that of one over both at once, `u`: they differ at most by bytes at
the end of the second chunk, which a FAULTED block has discarded in `t` and holds behind the offending frame in `u`. -/
def FeedsAgree (y : List Byte) (t u : State) : Prop :=
  (u.fault = none → t = u) ∧ ∃ z, z <:+ y ∧ u = { t with buf := t.buf ++ z }

namespace FeedsAgree

variable {y : List Byte} {t u : State}

theorem refl (y : List Byte) (t : State) : FeedsAgree y t t :=
  ⟨fun _ => rfl, [], List.nil_suffix, by simp⟩

theorem of_faulted (y : List Byte) (hf : t.fault ≠ none) : FeedsAgree y t (appendChunk y t) :=
  ⟨fun h => absurd h hf, y, List.suffix_rfl, rfl⟩

theorem events_eq (h : FeedsAgree y t u) : t.events = u.events := by
  obtain ⟨-, z, -, rfl⟩ := h
  rfl

theorem fault_eq (h : FeedsAgree y t u) : t.fault = u.fault := by
  obtain ⟨-, z, -, rfl⟩ := h
  rfl

theorem withOps (h : FeedsAgree y t u) (ops : List HostOp) :
    FeedsAgree y { t with ops := ops } { u with ops := ops } := by
  obtain ⟨heq, z, hz, hu⟩ := h
  exact ⟨fun ha => by rw [heq ha], z, hz, by rw [hu]⟩

end FeedsAgree

/-- The decode loop with more bytes behind: where it waited it goes on with them, and where it faulted they stay behind
the offending frame. -/
theorem drain_appendChunk {s t : State} (h : drain s = .next t) (ha : s.fault = none) (y : List Byte) :
    (t.fault = none → drain (appendChunk y s) = drain (appendChunk y t)) ∧
    (t.fault ≠ none → drain (appendChunk y s) = .next (appendChunk y t)) := by
  obtain ⟨is, b, f, hi, hb, hd, hstop⟩ := drain_spec ha
  have hframes := drain_frames hi (s := appendChunk y s) (b := b ++ y) ha (by simp [hb])
  rw [hd] at h
  cases h
  rw [hframes]
  cases f with
  | none => exact ⟨fun _ => by simp [appendChunk, ha], fun hf => absurd rfl hf⟩
  | some r =>
    refine ⟨fun hf => absurd hf (Option.some_ne_none r), fun _ => ?_⟩
    have hmal : decodeFrame (b ++ y) = .malformed r := by
      rw [decodeFrame_append (by simp [hstop]), hstop]
    rw [drain_malformed hmal]
    rfl

/-- The first part of a chunk the block takes, it takes. -/
theorem takesChunk_left {x y : List Byte} {s : State} (hk : TakesChunk s (x ++ y)) :
    TakesChunk s x := by
  obtain ⟨hlen, hfit⟩ := hk
  rw [List.length_append] at hlen hfit
  exact ⟨by omega, fits_mono hfit (by omega)⟩

/-- What is left of a chunk the block takes, it takes when the first part is done. -/
theorem takesChunk_of_runFeed {x y : List Byte} {s t : State} (hk : TakesChunk s (x ++ y))
    (h : runFeed x s = .next t) : TakesChunk t y := by
  obtain ⟨hlen, hfit⟩ := hk
  obtain ⟨hbuf, -⟩ := runFeed_bounds h
  rw [List.length_append] at hlen hfit
  rw [TakesChunk, runFeed_params h]
  exact ⟨by omega, fits_mono hfit (by omega)⟩

/-- Two chunks fed one after the other, and both at once, in either mode. -/
theorem runFeed_append {x y : List Byte} {s t : State} (hk : TakesChunk s (x ++ y))
    (ht : runFeed x s = .next t) :
    ∃ t' u, runFeed y t = .next t' ∧ runFeed (x ++ y) s = .next u ∧ FeedsAgree y t' u := by
  have hky := takesChunk_of_runFeed hk ht
  obtain ⟨hlen, ⟨⟨r, hr⟩, rfl⟩ | ⟨-, rfl, rfl⟩ | ⟨ha, hx, -, hd⟩⟩ := runFeed_next ht
  · have hf : t.fault ≠ none := by simp [hr]
    exact ⟨t, t, runFeed_faulted hf hky.1, runFeed_faulted hf hk.1, .refl y t⟩
  · obtain ⟨u, hu⟩ := runFeed_answers hky
    exact ⟨u, u, hu, hu, .refl y u⟩
  · obtain ⟨hactive, hfaulted⟩ := drain_appendChunk (s := appendChunk x s) hd ha y
    have hwhole : runFeed (x ++ y) s = drain (appendChunk y (appendChunk x s)) := by
      rw [runFeed_active ha (by simp [hx]) hk]
      simp [appendChunk]
    by_cases hf : t.fault = none
    · obtain ⟨u, hu⟩ := runFeed_answers hky
      have hsame : runFeed y t = runFeed (x ++ y) s := by
        rw [runFeed_of_inv (drain_inv hd ha) hf hky, hwhole, hactive hf]
      exact ⟨u, u, hu, hsame ▸ hu, .refl y u⟩
    · exact ⟨t, _, runFeed_faulted hf hky.1, hwhole.trans (hfaulted hf), .of_faulted y hf⟩

/-- The operations still waiting do not touch a FEED. -/
theorem runFeed_withOps (ops : List HostOp) (c : List Byte) (s : State) :
    runFeed c { s with ops := ops } = mapNext (fun s => { s with ops := ops }) (runFeed c s) :=
  runFeed_commutes (g := fun s => { s with ops := ops }) (fun _ => rfl) (fun _ => rfl) (fun _ => rfl)
    (fun _ => rfl) (fun _ _ => rfl) (fun e n s => by cases h : s.fault <;> simp [acceptFrame, h])
    (fun _ _ => rfl) c s

/-- A FEED issued to a block, followed by other operations. -/
theorem step_feed_of_runFeed {c : List Byte} {s t : State} (h : runFeed c s = .next t)
    (rest : List HostOp) :
    step { s with ops := .feed c :: rest } = .next { t with ops := rest } := by
  rw [step_feed rfl]
  exact (runFeed_withOps rest c s).trans (by rw [h]; rfl)

/-- Settles O42: the three steps are the three FEEDs, whose ends agree. -/
theorem chunkBoundariesAreInvisible : Obligations.ChunkBoundariesAreInvisible := by
  intro s x y rest _ hk
  obtain ⟨t₁, ht₁⟩ := runFeed_answers (takesChunk_left hk)
  obtain ⟨t₂, u, ht₂, hu, hagree⟩ := runFeed_append hk ht₁
  replace hagree := hagree.withOps rest
  have ⟨heq, hbuf⟩ := hagree
  exact ⟨_, _, _, step_feed_of_runFeed ht₁ _, step_feed_of_runFeed ht₂ _, step_feed_of_runFeed hu _,
    hagree.events_eq, hagree.fault_eq, heq, hbuf⟩

/-! ### One byte at a time (R182) -/

theorem run_succ_of_step {s t : State} (h : step s = .next t) (n : Nat) :
    Host.Core.run core (n + 1) s = Host.Core.run core n t := by
  have h : core.step s = .next t := h
  simp [Host.Core.run, h]

/-- One FEED per byte of a chunk, and one FEED of the chunk, in either mode: the first byte's FEED splits the chunk in
two, and the other bytes are the shorter chunk's. -/
theorem run_feed_bytes {c : List Byte} {s : State} (hk : TakesChunk s c) (rest : List HostOp) :
    ∃ t u, Host.Core.run core c.length { s with ops := c.map (fun b => .feed [b]) ++ rest }
        = .next { t with ops := rest } ∧
      runFeed c s = .next u ∧
      t.events = u.events ∧ t.fault = u.fault ∧ (u.fault = none → t = u) := by
  induction c generalizing s with
  | nil => exact ⟨s, s, rfl, runFeed_nil s, rfl, rfl, fun _ => rfl⟩
  | cons b c ih =>
    obtain ⟨t₁, ht₁⟩ := runFeed_answers (takesChunk_left (x := [b]) hk)
    obtain ⟨t₂, u, ht₂, hu, hagree⟩ := runFeed_append (x := [b]) hk ht₁
    obtain ⟨t, u', hrun, hu', hevents, hfault, heq⟩ := ih (takesChunk_of_runFeed (x := [b]) hk ht₁)
    obtain rfl : t₂ = u' := by simpa [ht₂] using hu'
    refine ⟨t, u, ?_, hu, hevents.trans hagree.events_eq, hfault.trans hagree.fault_eq, fun hf => ?_⟩
    · rw [List.length_cons, List.map_cons, List.cons_append]
      exact (run_succ_of_step (step_feed_of_runFeed ht₁ _) _).trans hrun
    · rw [heq (hagree.fault_eq.trans hf), hagree.1 hf]

/-- Settles O43. -/
theorem byteSerialFeedingIsEquivalent : Obligations.ByteSerialFeedingIsEquivalent := by
  intro s c rest _ hk
  obtain ⟨t, u, hrun, hu, hevents, hfault, heq⟩ := run_feed_bytes hk rest
  exact ⟨_, _, hrun, step_feed_of_runFeed hu rest, hevents, hfault, fun hf => by rw [heq hf]⟩

end Sys2Proof.Machine
end

section
/-! PROOFS. Errors, faults and power (60_exceptions.md): the idle block, and the codes of the status read-out. -/

namespace Sys2Proof.Machine

/-! ### The idle block (R219) -/

/-- The other half of `step_op`: with the queue empty there is no operation to run. -/
theorem step_idle {s : State} (h : s.ops = []) : step s = .next s := by
  simp [step, runNext, h]

/-- Settles O33. -/
theorem idleBlockHoldsItsState : Obligations.IdleBlockHoldsItsState :=
  fun _ => step_idle

/-! ### The status read-out (R28, R200, R205, R206) -/

theorem readStatus_eq (s : State) : s.readStatus = (s.fault, s.buf) := rfl

/-- Settles O54: the tables of R200 (four reasons), R205 (four fields) and R206 (three rejections), row by row, then
the read-out. -/
theorem statusCodes : Obligations.StatusCodes :=
  ⟨rfl, rfl, rfl, rfl,
    rfl, rfl, rfl, rfl,
    rfl, rfl, rfl,
    readStatus_eq⟩

end Sys2Proof.Machine
end

section
/-! PROOFS. Reset and hazards (70_reset_and_hazards.md): a fault record's bytes, decoded on their own, give the record
again, so feeding them after CLEAR reproduces the fault. -/

namespace Sys2Proof

/-! ### A record's bytes decode to the record (R121, R239, decision D9) -/

theorem decodeSlider_bytes_of_malformed {s t : Byte} {rest : List Byte} {r : FaultRecord}
    (h : decodeSlider s t rest = .malformed r) :
    ∃ tail, r.bytes = s :: t :: tail ∧ decodeSlider s t tail = .malformed r := by
  by_cases ht : t ≠ sliderType
  · simp only [decodeSlider, if_pos ht] at h
    cases h
    exact ⟨[], rfl, if_pos ht⟩
  · match rest with
    | [] | [_] | [_, _] => simp [decodeSlider, ht] at h
    | high :: marker :: low :: _ =>
      refine ⟨[high, marker, low], ?_, h⟩
      simp only [decodeSlider, if_neg ht] at h
      split_ifs at h <;> cases h <;> rfl

theorem decodeChannelButton_bytes_of_malformed {s t : Byte} {rest : List Byte} {r : FaultRecord}
    (h : decodeChannelButton s t rest = .malformed r) :
    ∃ tail, r.bytes = s :: t :: tail ∧ decodeChannelButton s t tail = .malformed r := by
  cases hkey : channelButtonOf t with
  | none =>
    simp only [decodeChannelButton, hkey] at h ⊢
    cases h
    exact ⟨[], rfl, rfl⟩
  | some button =>
    match rest with
    | [] => simp [decodeChannelButton, hkey] at h
    | e :: _ =>
      refine ⟨[e], ?_, by simpa [decodeChannelButton, hkey] using h⟩
      simp only [decodeChannelButton, hkey] at h
      split at h <;> cases h
      rfl

theorem decodeGlobalButton_bytes_of_malformed {s t : Byte} {rest : List Byte} {r : FaultRecord}
    (h : decodeGlobalButton s t rest = .malformed r) :
    ∃ tail, r.bytes = s :: t :: tail ∧ decodeGlobalButton s t tail = .malformed r := by
  by_cases hch : channelOf s ≠ 0
  · simp only [decodeGlobalButton, if_pos hch] at h
    cases h
    exact ⟨[], rfl, if_pos hch⟩
  cases hkey : globalButtonOf t with
  | none =>
    simp only [decodeGlobalButton, if_neg hch, hkey] at h ⊢
    cases h
    exact ⟨[], rfl, rfl⟩
  | some button =>
    match rest with
    | [] => simp [decodeGlobalButton, hch, hkey] at h
    | e :: _ =>
      refine ⟨[e], ?_, by simpa [decodeGlobalButton, hch, hkey] using h⟩
      simp only [decodeGlobalButton, if_neg hch, hkey] at h
      split at h <;> cases h
      rfl

/-- The record holds the two bytes that choose the arm, and what the arm's failed check examined: the same checks, in
the same order, fail on it. -/
theorem decodeFrame_bytes_of_malformed {b : List Byte} {r : FaultRecord}
    (h : decodeFrame b = .malformed r) : decodeFrame r.bytes = .malformed r := by
  match b with
  | [] | [_] => cases h
  | s :: t :: rest =>
    simp only [decodeFrame] at h
    split_ifs at h with hs h0 h4 h7
    · obtain ⟨tail, hbytes, htail⟩ := decodeSlider_bytes_of_malformed h
      simp [hbytes, decodeFrame, hs, h0, htail]
    · obtain ⟨tail, hbytes, htail⟩ := decodeChannelButton_bytes_of_malformed h
      simp [hbytes, decodeFrame, hs, h4, htail]
    · obtain ⟨tail, hbytes, htail⟩ := decodeGlobalButton_bytes_of_malformed h
      simp [hbytes, decodeFrame, hs, h7, htail]
    · cases h
      simp [decodeFrame, hs, h0, h4, h7]
    · cases h
      simp [decodeFrame, hs]

theorem decodeOne_eq_malformed_iff {b : List Byte} {r : FaultRecord} :
    decodeOne b = .malformed r ↔ decodeFrame b = .malformed r := by
  refine ⟨fun h => ?_, decodeOne_of_malformed⟩
  rw [decodeOne_eq_outcome] at h
  cases hb : decodeFrame b with
  | incomplete => simp [hb] at h
  | malformed r' => simpa [hb] using h
  | frame i =>
    obtain ⟨e, he⟩ := decodeFrame_frame_event hb
    simp [hb, outcome_frame he] at h

end Sys2Proof

namespace Sys2Proof.Machine

/-! ### Feeding the offending bytes again (R239) -/

theorem decodeFrame_of_inv_faulted {s : State} {r : FaultRecord} (hi : s.Inv) (hf : s.fault = some r) :
    decodeFrame s.buf = .malformed r :=
  decodeOne_eq_malformed_iff.mp (by simpa [State.Inv, hf] using hi)

/-- A FEED of malformed bytes to an ACTIVE block with nothing pending leaves them pending and enters the fault. -/
theorem step_feed_malformed {s : State} {c : List Byte} {r : FaultRecord} {rest : List HostOp}
    (hops : s.ops = .feed c :: rest) (ha : s.fault = none) (hb : s.buf = []) (hk : TakesChunk s c)
    (hdec : decodeFrame c = .malformed r) :
    step s = .next { s with ops := rest, buf := c, fault := some r } := by
  have hne : c ≠ [] := by
    rintro rfl
    simp [decodeFrame_nil] at hdec
  rw [step_feed_active hops ha hne hk, hb, List.nil_append]
  exact drain_malformed hdec

/-- Settles O44: the faulted buffer is malformed with the record, so the record's bytes are, and after CLEAR they are
the whole buffer. -/
theorem refeedingReproducesTheFault : Obligations.RefeedingReproducesTheFault := by
  intro s r rest hi hf hops hk
  have hdec := decodeFrame_bytes_of_malformed (decodeFrame_of_inv_faulted hi hf)
  refine ⟨_, step_clear hops, ?_⟩
  rw [hf]
  exact step_feed_malformed rfl rfl rfl hk hdec

end Sys2Proof.Machine
end
